-- ==== Sys2Proof/Word.lean ====
section
/-! DEFINITION. The data formats the block moves: a bus byte, the 16-bit button mask, the 2-byte snapshot, the paired bus read, and the named results (30_encoding.md; 00_scope.md R16). Bit 0 is the least significant bit throughout. -/

namespace Sys2Proof

/-- Eight lines, or eight logical buttons (00_scope.md R14, R16). -/
abbrev Byte := BitVec 8

/-- The 16-bit button mask of the canonical layout (30_encoding.md R57). -/
abbrev Mask := BitVec 16

/-- One 3-bit command word (30_encoding.md R63). -/
abbrev CommandWord := BitVec 3

/-- A 4-bit dpad field: Up 0, Down 1, Left 2, Right 3 (30_encoding.md R61). -/
abbrev DpadField := BitVec 4

/-- PinSnapshot: a fixed-size sequence of two logical bytes, active = pressed (30_encoding.md R58). -/
structure PinSnapshot where
  byte0 : Byte
  byte1 : Byte
  deriving DecidableEq, Repr, Inhabited

/-- The electrical levels of the two buses at one instant, 1 = high = released (20_memory.md R41, R42). -/
structure PinPair where
  pins0 : Byte
  pins1 : Byte
  deriving DecidableEq, Repr, Inhabited

/-- The tag of a report (30_encoding.md R59). -/
inductive PadType where
  | nes
  | snes
  deriving DecidableEq, Repr, Inhabited

/-- The status every operation returns (30_encoding.md R68). -/
inductive Status where
  | success
  | notInitialized
  deriving DecidableEq, Repr, Inhabited

/-- The three fields of a GamepadReport, as the report output ports hold them (30_encoding.md R60). -/
structure Report where
  padType : PadType
  buttons : Mask
  rawData : PinSnapshot
  deriving DecidableEq, Repr, Inhabited

end Sys2Proof
end

