-- ==== Sys2Proof/Config.lean ====
section
/-! DEFINITION. What is fixed when an instance is constructed (00_scope.md R9 to R14, 10_state.md R26), and the free values: outputs to which the spec gives no meaning (93_implementation_defined.md U13; log 9). -/

namespace Sys2Proof

/-- The wiring mode, fixed at construction (00_scope.md R9). -/
inductive Mode where
  | nes8Button
  | snes12ButtonHome
  deriving DecidableEq, Repr, Inhabited

/-- The configuration record of one instance (00_scope.md, parameter table). Entry `k` of a table is the bus line
that feeds logical bit `k`. The range 0..7 of `HOME_SRC` is a check of `Config.admissible`, not of the type. -/
structure Config where
  /-- `MODE` (R9) -/
  mode : Mode
  /-- `SRC0[NES_8BUTTON]` (R12) -/
  src0Nes : Vector (Fin 8) 8
  /-- `SRC0[SNES_12BUTTON_HOME]` (R12) -/
  src0Snes : Vector (Fin 8) 8
  /-- `SRC1`: the lines of A, X, L, R on the extra bus (R13) -/
  src1 : Vector (Fin 8) 4
  /-- `HOME_SRC`: the line of Home on the extra bus (R11) -/
  homeSrc : Nat
  deriving DecidableEq, Repr

/-- `SRC0[MODE]`: the table of the instance's own mode. -/
def Config.src0 (c : Config) : Vector (Fin 8) 8 :=
  match c.mode with
  | .nes8Button => c.src0Nes
  | .snes12ButtonHome => c.src0Snes

/-- FREE VALUE (log 9): `changed_out` where no successful CHANGED produced it. No body: nothing is known of it. -/
opaque Config.freeChangedOut : Nat → Bool

/-- FREE VALUE (log 9): `status` after the reset input, before an operation produces it. -/
opaque Config.freeStatus : Nat → Status

/-- FREE VALUE (log 9): the report outputs after the reset input, before a GETREPORT writes them. -/
opaque Config.freeReport : Nat → Report

end Sys2Proof
end

