-- ==== Sys2Proof/Syntax.lean ====
section
/-! DEFINITION. The four host operations, the block's whole instruction set (00_scope.md R3, 44_operations.md R124). -/

namespace Sys2Proof

/-- One constructor per row of spec/opcode_table.json. -/
inductive Instr where
  /-- INIT (44_operations.md R111) -/
  | init
  /-- UPDATE (R112) -/
  | update
  /-- CHANGED (R113) -/
  | changed
  /-- GETREPORT `d` (R114): `d` is true when the host supplies a report record -/
  | getreport (d : Bool)
  deriving DecidableEq, Repr

end Sys2Proof
end

