-- ==== Sys2Proof/WellFormed.lean ====
section
/-! DEFINITION. Which configurations are admissible (42_bit_mapper.md R95, checks (a) to (e), one definition each), and which operations are well formed (all of them: 30_encoding.md R66). -/

namespace Sys2Proof

/-- R95 (a): `SRC0[MODE]` is a bijection on 0..7: each button has one line, each line carries one button. -/
def Config.lines0Bijective (c : Config) : Bool :=
  decide (∀ i j : Fin 8, c.src0[i] = c.src0[j] → i = j) && decide (∀ line : Fin 8, ∃ k : Fin 8, c.src0[k] = line)

/-- R95 (b): for a SNES instance `SRC0` is the identity. -/
def Config.snesIdentity (c : Config) : Bool :=
  match c.mode with
  | .nes8Button => true
  | .snes12ButtonHome => decide (∀ k : Fin 8, c.src0[k] = k)

/-- R95 (c): for a NES instance `SRC0[0] = 7` and `SRC0[1] = 6`. -/
def Config.nesSwap (c : Config) : Bool :=
  match c.mode with
  | .nes8Button => decide (c.src0[(0 : Fin 8)] = 7 ∧ c.src0[(1 : Fin 8)] = 6)
  | .snes12ButtonHome => true

/-- R95 (d): for a SNES instance the four entries of `SRC1` and `HOME_SRC` are pairwise different. -/
def Config.extraDistinct (c : Config) : Bool :=
  match c.mode with
  | .nes8Button => true
  | .snes12ButtonHome =>
    decide (∀ i j : Fin 4, c.src1[i] = c.src1[j] → i = j) && decide (∀ i : Fin 4, (c.src1[i]).val ≠ c.homeSrc)

/-- R95 (e): `HOME_SRC` is in 0..7. -/
def Config.homeInRange (c : Config) : Bool :=
  decide (c.homeSrc < 8)

/-- The well-formedness check on a configuration: exactly (a) to (e) of R95. -/
def Config.admissible (c : Config) : Bool :=
  c.lines0Bijective && c.snesIdentity && c.nesSwap && c.extraDistinct && c.homeInRange

/-- Every operation is well formed: the only operand is one bit, and both its values are legal (R65, R66). -/
def Instr.wellFormed : Instr → Bool
  | .init => true
  | .update => true
  | .changed => true
  | .getreport _ => true

end Sys2Proof
end

