-- ==== Sys2Proof/Decode.lean ====
section
/-! DEFINITION. The command word (30_encoding.md R63 to R67): the total decoder, the encoder to canonical words, the reader of table words, and the text form of an operation (R71). -/

namespace Sys2Proof

/-- The field `op`, bits 1:0 (R63). -/
def opField (w : CommandWord) : BitVec 2 := w.extractLsb' 0 2

/-- The field `d`, bit 2 (R63). -/
def dField (w : CommandWord) : Bool := w.getLsbD 2

/-- The opcode map (R64). Total on the eight words: `d` is ignored unless `op` is 11 (R66). -/
def decode (w : CommandWord) : Instr :=
  match opField w with
  | 0b00#2 => .init
  | 0b01#2 => .update
  | 0b10#2 => .changed
  | 0b11#2 => .getreport (dField w)

/-- The canonical word of an operation (R64, R66: an encoder emits only these). -/
def encode : Instr → CommandWord
  | .init => 0b000#3
  | .update => 0b001#3
  | .changed => 0b010#3
  | .getreport false => 0b011#3
  | .getreport true => 0b111#3

/-- Why a number is no command word. -/
inductive DecodeError where
  /-- a bit above bit 2 is set: the command port is three bits wide (R63); safe, no operation is issued -/
  | widerThanCommandPort
  deriving DecidableEq, Repr

/-- Reads a number of any size: the command word it is, or the reason it is none. -/
def decodeNumber (n : Nat) : Except DecodeError Instr :=
  if n < 8 then .ok (decode (BitVec.ofNat 3 n)) else .error .widerThanCommandPort

/-- The number the table's `nbits` bits hold; every bit above them is 0. -/
def tableNumber (nbits w : Nat) : Nat := w % 2 ^ nbits

/-- The instruction the decoder reads from a word of spec/opcode_table.json. -/
def decodeTableWord (nbits w : Nat) : Option Instr :=
  match decodeNumber (tableNumber nbits w) with
  | .ok i => some i
  | .error _ => none

/-- The operation as a line of a test program spells it, without its pin annotation (R71). -/
def Instr.text : Instr → String
  | .init => "INIT"
  | .update => "UPDATE"
  | .changed => "CHANGED"
  | .getreport true => "GETREPORT dst"
  | .getreport false => "GETREPORT null"

end Sys2Proof
end

