-- ==== Sys2Proof/Machine/Wiring.lean ====
section
/-! DEFINITION. The constant tables: DPAD_MAP, HOME_DST (00_scope.md R10, R14) and the spec's default source tables (42_bit_mapper.md R100, R101). -/

namespace Sys2Proof.Machine

/-- `DPAD_MAP`, bit for bit (00_scope.md R10, 10_state.md R27). -/
def dpadMap : Vector DpadField 16 :=
  #v[0, 1, 2, 1, 4, 5, 6, 5, 8, 9, 10, 9, 8, 9, 10, 9]

/-- `HOME_DST`: the canonical bit that receives Home (00_scope.md R14). -/
def homeDst : Nat := 12

/-- The default NES table (42_bit_mapper.md R100; entries 2 to 7 are the spec's decision D10). -/
def defaultSrc0Nes : Vector (Fin 8) 8 := #v[7, 6, 0, 1, 2, 3, 4, 5]

/-- The SNES table: the identity (R101). -/
def defaultSrc0Snes : Vector (Fin 8) 8 := #v[0, 1, 2, 3, 4, 5, 6, 7]

/-- The default extra-bus table (R101; the spec's decision D11). -/
def defaultSrc1 : Vector (Fin 8) 4 := #v[0, 1, 2, 3]

/-- The configuration with the default tables; `MODE` and `HOME_SRC` have no default (R9, R11). -/
def defaultConfig (mode : Mode) (homeSrc : Nat) : Config :=
  { mode := mode, src0Nes := defaultSrc0Nes, src0Snes := defaultSrc0Snes, src1 := defaultSrc1, homeSrc := homeSrc }

end Sys2Proof.Machine
end

