-- ==== Sys2Proof/Machine/State.lean ====
section
/-! DEFINITION. The state: the instance's three registers, its construction-time configuration, the ports, and the model's own launch record. Every field's rule and reset value stand in INVENTORY.md. -/

namespace Sys2Proof.Machine

/-- The sequencing register (10_state.md R24). -/
inductive Phase where
  | uninitialized
  | ready
  deriving DecidableEq, Repr

/-- The error outcomes of the spec. No step ENDS in one: the spec lets the host go on (60_exceptions.md R129), so the
outcome is recorded in the launch record (R130; log 3). -/
inductive Fault where
  /-- Raised by UPDATE, CHANGED and GETREPORT in phase Uninitialized (44_operations.md R110). Unsafe as far as a claim
  relies on the machine going on (D6); a claim about a host that honours the state machine never meets it. -/
  | notInitialized (op : Instr)
  deriving DecidableEq, Repr

/-- Why a step has no meaning. -/
inductive Refusal where
  /-- An instruction without a meaning yet. Raised by no arm of this model. Safe. -/
  | notModelled (mnemonic : String)
  /-- Raised by `step` when the host issues an operation while another is in progress (20_memory.md R52,
  70_reset_and_hazards.md R144, D20). Safe. -/
  | overlappedOperations
  /-- Raised by every operation of an instance whose configuration fails 42_bit_mapper.md R95 (D28, U14). Safe. -/
  | inadmissibleConfiguration
  deriving DecidableEq, Repr

/-- One write of a field of the caller's report record (00_scope.md R18, 44_operations.md R114). -/
inductive FieldWrite where
  | padType (v : PadType)
  | buttons (v : Mask)
  | rawData (v : PinSnapshot)
  deriving DecidableEq, Repr

/-- What the outside sees the block do, one entry an event (00_scope.md R18, 70_reset_and_hazards.md R154; log 4). -/
inductive Event where
  | gpioConfigure (m : Mode)
  | pinReadPair (p : PinPair)
  | reportWrite (f : FieldWrite)
  | raised (f : Fault)
  deriving DecidableEq, Repr

/-- What the outside puts on the input ports in one step (30_encoding.md R70; log 5, log 13). -/
inductive HostInput where
  /-- `reset` asserted (70_reset_and_hazards.md R140) -/
  | reset
  /-- `cmd_valid` with this command word, while these levels stand on the pin ports -/
  | issue (cmd : CommandWord) (pins : PinPair)
  /-- two operations issued at once, which the host must never do (R144) -/
  | overlapped (first second : CommandWord)
  deriving DecidableEq, Repr

/-- Plain data, all of it. -/
@[ext]
structure State where
  /-- the construction-time configuration, written by nothing (10_state.md R26; log 1) -/
  cfg : Config
  /-- R24 -/
  phase : Phase
  /-- LastSampled (R21) -/
  ls : PinSnapshot
  /-- LastReported (R22) -/
  lr : PinSnapshot
  /-- output port `status` (30_encoding.md R68) -/
  status : Status
  /-- output port `changed_out` (R69) -/
  changedOut : Bool
  /-- output port `rep_valid` (R70) -/
  repValid : Bool
  /-- output ports `rep_pad_type`, `rep_buttons`, `rep_raw0`, `rep_raw1` (R60, R70) -/
  report : Report
  /-- output port `gpio_cfg_req` with its mode, as it stood during the last operation (R70; log 12) -/
  gpioCfgReq : Option Mode
  /-- output port `atomic_window`: asserted during the last operation (R70; log 12) -/
  atomicWindow : Bool
  /-- input ports `pins0`, `pins1` (R70; log 6) -/
  pins : PinPair
  /-- what the host will put on the ports, next first (log 5) -/
  inputs : List HostInput
  /-- the launch record, oldest first (log 4) -/
  trace : List Event
  /-- how many free values have been used (log 9) -/
  freeCount : Nat
  deriving DecidableEq, Repr

/-- A newly constructed instance with configuration `c` (70_reset_and_hazards.md R140, R141). The output ports but
`rep_valid` have no meaning yet: their values here are a DESIGN CHOICE (log 10), as are the levels on the pin ports
(log 16). -/
def State.resetOf (c : Config) : State :=
  { cfg := c
    phase := .uninitialized
    ls := ⟨0x00#8, 0x00#8⟩
    lr := ⟨0x00#8, 0x00#8⟩
    status := .success
    changedOut := false
    repValid := false
    report := ⟨.nes, 0x0000#16, ⟨0x00#8, 0x00#8⟩⟩
    gpioCfgReq := none
    atomicWindow := false
    pins := ⟨0xFF#8, 0xFF#8⟩
    inputs := []
    trace := []
    freeCount := 0 }

/-- Right after reset. `MODE` and `HOME_SRC` are open parameters: SNES_12BUTTON_HOME and the examples' 4 stand here as
a DESIGN CHOICE (log 2); claims quantify over `State.resetOf`. -/
def State.reset : State := State.resetOf (defaultConfig .snes12ButtonHome 4)

end Sys2Proof.Machine
end

