-- ==== Sys2Proof/Machine/Operands.lean ====
section
/-! DEFINITION. The datapath as pure functions of the configuration and the pins: assembling a byte bit by bit, RESOLVE (41), REMAP (42), SAMPLE (40), the button mask and the pad type (44 R118). -/

namespace Sys2Proof.Machine

/-- The byte whose bit `k` is `f k` (00_scope.md R16). -/
def byteOfBits (f : Nat → Bool) : Byte :=
  BitVec.ofBoolListLE [f 0, f 1, f 2, f 3, f 4, f 5, f 6, f 7]

/-- The 4-bit field whose bit `k` is `f k`. -/
def fieldOfBits (f : Nat → Bool) : DpadField :=
  BitVec.ofBoolListLE [f 0, f 1, f 2, f 3]

/-- `v[k] <- b`. -/
def setBit (v : Byte) (k : Nat) (b : Bool) : Byte :=
  (v &&& ~~~(1#8 <<< k)) ||| ((if b then 1#8 else 0#8) <<< k)

/-- Entry `k` of a source table of the primary bus, as a line number. -/
def line0 (c : Config) (k : Nat) : Nat := if h : k < 8 then (c.src0[k]).val else 0

/-- Entry `k` of the source table of the extra bus, as a line number. -/
def line1 (c : Config) (k : Nat) : Nat := if h : k < 4 then (c.src1[k]).val else 0

/-- `RESOLVE(raw4) = DPAD_MAP[raw4]` (41_dpad_resolver.md R85). -/
def resolve (raw : DpadField) : DpadField := dpadMap[raw.toNat]

/-- Logical byte 0: the bus-0 byte permuted by `SRC0[MODE]` (42_bit_mapper.md R96). -/
def remapByte0 (c : Config) (r0 : Byte) : Byte :=
  byteOfBits fun k => r0.getLsbD (line0 c k)

/-- Logical byte 1: Home alone on a NES instance (R97); A, X, L, R and Home on a SNES instance (R98). -/
def remapByte1 (c : Config) (a1 : Byte) : Byte :=
  byteOfBits fun k =>
    if k = homeDst - 8 then a1.getLsbD c.homeSrc
    else
      match c.mode with
      | .nes8Button => false
      | .snes12ButtonHome => decide (k < 4) && a1.getLsbD (line1 c k)

/-- `REMAP` (R93). Its `mode` operand is always the instance's own (R103 (f)). -/
def remap (c : Config) (r0 a1 : Byte) : PinSnapshot :=
  ⟨remapByte0 c r0, remapByte1 c a1⟩

/-- The four active dpad signals, taken from their lines of bus 0 (40_sampler.md R76, 41_dpad_resolver.md R87). -/
def rawDpad (c : Config) (a0 : Byte) : DpadField :=
  fieldOfBits fun i => a0.getLsbD (line0 c (4 + i))

/-- Puts a dpad field back on its four lines, in the order of R76's loop. -/
def putDpad (c : Config) (a0 : Byte) (d : DpadField) : Byte :=
  [0, 1, 2, 3].foldl (fun r i => setBit r (line0 c (4 + i)) (d.getLsbD i)) a0

/-- `SAMPLE` on the pair it read: invert, resolve, remap (40_sampler.md R76). -/
def sample (c : Config) (p : PinPair) : PinSnapshot :=
  let a0 := ~~~p.pins0
  let a1 := ~~~p.pins1
  remap c (putDpad c a0 (resolve (rawDpad c a0))) a1

/-- The equivalent form: permute first, then resolve bits 7:4 of byte 0 (R81). -/
def samplePermutedFirst (c : Config) (p : PinPair) : PinSnapshot :=
  let m0 := remapByte0 c (~~~p.pins0)
  ⟨resolve (m0.extractLsb' 4 4) ++ m0.extractLsb' 0 4, remapByte1 c (~~~p.pins1)⟩

/-- `buttons = zext_16(LS[0]) | (zext_16(LS[1]) << 8)` (20_memory.md R45). -/
def packButtons (x : PinSnapshot) : Mask :=
  x.byte0.zeroExtend 16 ||| (x.byte1.zeroExtend 16 <<< 8)

/-- `PAD(MODE)` (44_operations.md R118). -/
def padOf : Mode → PadType
  | .nes8Button => .nes
  | .snes12ButtonHome => .snes

end Sys2Proof.Machine
end

