-- ==== Sys2Proof/Machine/Flags.lean ====
section
/-! DEFINITION. The one computed flag, CHANGED_FN (43), and the one-bit codes of the named values at the ports (30_encoding.md R59, R68; 10_state.md R24; decisions D4, D5). -/

namespace Sys2Proof.Machine

/-- `CHANGED_FN`: byte-wise inequality over the full snapshot, no mask (43_change_detector.md R105, R106). -/
def changedFn (cur last : PinSnapshot) : Bool :=
  (cur.byte0 != last.byte0) || (cur.byte1 != last.byte1)

/-- The `status` port (30_encoding.md R68). -/
def statusCode : Status → BitVec 1
  | .success => 0
  | .notInitialized => 1

/-- The `rep_pad_type` port (R59). -/
def padTypeCode : PadType → BitVec 1
  | .nes => 0
  | .snes => 1

/-- The code of `MODE` (00_scope.md R9). -/
def modeCode : Mode → BitVec 1
  | .nes8Button => 0
  | .snes12ButtonHome => 1

/-- The code of `phase` (10_state.md R24). -/
def phaseCode : Phase → BitVec 1
  | .uninitialized => 0
  | .ready => 1

end Sys2Proof.Machine
end

