-- ==== Sys2Proof/Machine/Ops.lean ====
section
/-! DEFINITION. The named operations over the state that the four meanings share: the primitives of 00_scope.md R18, the phase check and the NotInitialized outcome (44_operations.md R110), the commit, and reset (70). -/

namespace Sys2Proof.Machine

/-- Appends one event to the launch record (log 4). -/
def State.record (s : State) (e : Event) : State := { s with trace := s.trace ++ [e] }

/-- The start of every operation: the ports that speak of the operation in progress are down (log 12). -/
def State.begin (s : State) : State :=
  { s with repValid := false, gpioCfgReq := none, atomicWindow := false }

/-- `GpioConfigure(MODE)` (20_memory.md R43). -/
def State.gpioConfigure (s : State) : State :=
  { s.record (.gpioConfigure s.cfg.mode) with gpioCfgReq := some s.cfg.mode }

/-- `LS <- SAMPLE()`: one paired read inside the atomic window (40_sampler.md R76, R78, R79). -/
def State.sampleIntoLs (s : State) : State :=
  { s.record (.pinReadPair s.pins) with ls := sample s.cfg s.pins, atomicWindow := true }

/-- `phase <- Ready`. -/
def State.enterReady (s : State) : State := { s with phase := .ready }

/-- What a field write makes of the report (00_scope.md R18). -/
def writeField (r : Report) : FieldWrite → Report
  | .padType v => { r with padType := v }
  | .buttons v => { r with buttons := v }
  | .rawData v => { r with rawData := v }

/-- `ReportWrite(f, v)` of several fields in one operation, in the order given (00_scope.md R18). -/
def State.reportWrites (s : State) (fs : List FieldWrite) : State :=
  { s with report := fs.foldl writeField s.report, trace := s.trace ++ fs.map Event.reportWrite }

/-- The three fields together, from `LS` and `MODE`, in the order of R114's pseudocode, with the strobe
(44_operations.md R114, R118). -/
def State.writeReport (s : State) : State :=
  { s.reportWrites [.padType (padOf s.cfg.mode), .buttons (packButtons s.ls), .rawData s.ls] with repValid := true }

/-- `LR <- LS` (R115). -/
def State.commit (s : State) : State := { s with lr := s.ls }

/-- `changed_out` where the operation does not produce it: a free value (93 U13; log 9). -/
def State.freeChangedOut (s : State) : State :=
  { s with changedOut := Config.freeChangedOut s.freeCount, freeCount := s.freeCount + 1 }

/-- `return (SUCCESS)` (30_encoding.md R68). -/
def State.succeed (s : State) : State := { s.freeChangedOut with status := .success }

/-- `return (SUCCESS, changed_out)` (44_operations.md R113). -/
def State.succeedWith (s : State) (changed : Bool) : State := { s with status := .success, changedOut := changed }

/-- `raise NotInitialized(op)`, the block's one exception: status NOT_INITIALIZED, nothing else written, no transfer of
control (44_operations.md R110, 60_exceptions.md R129). The launch record keeps the fault (R130; log 3). There is no
return from it (R130). -/
def State.raiseNotInitialized (s : State) (op : Instr) : State :=
  { (s.record (.raised (.notInitialized op))).freeChangedOut with status := .notInitialized }

/-- `require_ready(op)`, made before any other effect of the operation (R110, 60_exceptions.md R128). -/
def State.requireReady (s : State) (op : Instr) (body : State) : State :=
  match s.phase with
  | .uninitialized => s.raiseNotInitialized op
  | .ready => body

/-- An operation of an instance: refused where the configuration is not admissible (42_bit_mapper.md R95, D28). That the
refusal stands here, in the operations alone, and not in reset is a DESIGN CHOICE (log 8). -/
def State.launch (s : State) (result : State) : Host.Outcome State Fault Refusal :=
  if s.cfg.admissible then .next result else .refused .inadmissibleConfiguration

/-- The reset input (70_reset_and_hazards.md R140, R141): the registers at their reset values, `rep_valid` 0, the other
outputs free (log 9); the configuration is kept, no pin is read, no request sent, no report field written. It asks
nothing of the configuration: an inadmissible instance is reset too (DESIGN CHOICE, log 8). -/
def State.resetInstance (s : State) : State :=
  { s with
    phase := .uninitialized
    ls := ⟨0x00#8, 0x00#8⟩
    lr := ⟨0x00#8, 0x00#8⟩
    status := Config.freeStatus s.freeCount
    changedOut := Config.freeChangedOut s.freeCount
    repValid := false
    report := Config.freeReport s.freeCount
    gpioCfgReq := none
    atomicWindow := false
    freeCount := s.freeCount + 1 }

end Sys2Proof.Machine
end

