-- ==== Sys2Proof/Machine/Reporting.lean ====
section
/-! DEFINITION. The two operations that speak of the last sample: CHANGED and GETREPORT (44_operations.md R113, R114). -/

namespace Sys2Proof.Machine

/-- CHANGED (R113): phase check, then `CHANGED_FN(LS, LR)` on `changed_out`; nothing is stored. -/
def execChanged (s : State) : Host.Outcome State Fault Refusal :=
  s.launch (s.begin.requireReady .changed (s.begin.succeedWith (changedFn s.ls s.lr)))

/-- GETREPORT `d` (R114): phase check; the three report fields when `d`; the commit whatever `d` is (R115, R121). -/
def execGetreport (d : Bool) (s : State) : Host.Outcome State Fault Refusal :=
  s.launch
    (s.begin.requireReady (.getreport d) (if d then s.begin.writeReport else s.begin).commit.succeed)

end Sys2Proof.Machine
end

