-- ==== Sys2Proof/Machine/Sampling.lean ====
section
/-! DEFINITION. The two operations that read the pins: INIT and UPDATE (44_operations.md R111, R112). -/

namespace Sys2Proof.Machine

/-- INIT (R111; in phase Ready R119): configure request, one sample into `LS`, phase Ready, in either phase. -/
def execInit (s : State) : Host.Outcome State Fault Refusal :=
  s.launch s.begin.gpioConfigure.sampleIntoLs.enterReady.succeed

/-- UPDATE (R112): phase check, one sample into `LS`. -/
def execUpdate (s : State) : Host.Outcome State Fault Refusal :=
  s.launch (s.begin.requireReady .update s.begin.sampleIntoLs.succeed)

end Sys2Proof.Machine
end

