-- ==== Sys2Proof/Machine/Fetch.lean ====
section
/-! DEFINITION. Taking the next input from the host's sequence, and putting a command word there (20_memory.md R52, 30_encoding.md R70). -/

namespace Sys2Proof.Machine

/-- The state in which an issued operation runs: its input is taken off the sequence and the levels issued with it
stand on the pin ports. -/
def State.taking (s : State) (rest : List HostInput) (p : PinPair) : State :=
  { s with inputs := rest, pins := p }

/-- `n` as the next command on the port, with the levels that stand on the pins now. A number that is no command word
is not put on the three-bit port (log 14). -/
def State.issueNext (s : State) (n : Nat) : State :=
  if n < 8 then { s with inputs := .issue (BitVec.ofNat 3 n) s.pins :: s.inputs } else s

end Sys2Proof.Machine
end

