-- ==== Sys2Proof/Machine/Step.lean ====
section
/-! DEFINITION. One step: one input of the host, whole (20_memory.md R48, R52; D2). -/

namespace Sys2Proof.Machine

/-- Nothing left to issue: the run has ended and the state stays (70_reset_and_hazards.md R154; log 5).

DESIGN CHOICE (log 8): R155 and U14 refuse the launch of an instance with an inadmissible configuration and do not say
where the refusal stands. Here it stands in each operation, so an input that issues none (a reset, or no input at all)
steps to a next state on such an instance too, which keeps its configuration and so goes on refusing its operations. -/
def step (s : State) : Host.Outcome State Fault Refusal :=
  match s.inputs with
  | [] => .next s
  | .reset :: rest => .next (s.taking rest s.pins).resetInstance
  | .issue w p :: rest => exec (decode w) (s.taking rest p)
  | .overlapped _ _ :: _ => .refused .overlappedOperations

/-- The table's word as the next command the host issues. -/
def State.withFetchWord (s : State) (nbits w : Nat) : State := s.issueNext (tableNumber nbits w)

end Sys2Proof.Machine
end

