-- ==== Sys2Proof/Safety.lean ====
section
/-! DEFINITION. The terms claims use: what a lawful snapshot is (10_state.md R30), what the launch record says, and what a host that honours its duties issues (70_reset_and_hazards.md R155). -/

namespace Sys2Proof.Machine

/-- R30 of one snapshot: (a) byte 1 bits 7:5 are 0; (b) the dpad field is one of the nine conflict-free values; (c) on a
NES instance byte 1 bits 3:0 are 0. -/
def snapshotLawful (c : Config) (x : PinSnapshot) : Prop :=
  x.byte1.extractLsb' 5 3 = 0#3
    ∧ x.byte0.extractLsb' 4 4 ∈ [0#4, 1#4, 2#4, 4#4, 5#4, 6#4, 8#4, 9#4, 10#4]
    ∧ (c.mode = .nes8Button → x.byte1.extractLsb' 0 4 = 0#4)

/-- R30 of both snapshot registers. -/
def State.lawful (s : State) : Prop :=
  snapshotLawful s.cfg s.ls ∧ snapshotLawful s.cfg s.lr

/-- The pairs read so far, oldest first. -/
def readsOf (trace : List Event) : List PinPair :=
  trace.filterMap fun e => match e with
    | .pinReadPair p => some p
    | .gpioConfigure _ | .reportWrite _ | .raised _ => none

/-- The error outcomes so far, oldest first. -/
def faultsOf (trace : List Event) : List Fault :=
  trace.filterMap fun e => match e with
    | .raised f => some f
    | .gpioConfigure _ | .reportWrite _ | .pinReadPair _ => none

/-- Once Ready, `LS` is the sample of the most recent paired read (70_reset_and_hazards.md R148, 10_state.md R28). -/
def State.holdsLatestSample (s : State) : Prop :=
  s.phase = .ready → ∃ p, (readsOf s.trace).getLast? = some p ∧ s.ls = sample s.cfg p

/-- Every pad type ever written to a report is the instance's (44_operations.md R118, R120), and a report marked valid
carries one and the same 16 bits in its mask and its raw bytes (30_encoding.md R60), those of `LS` and `LR`. -/
def State.reportsAgree (s : State) : Prop :=
  (∀ v, Event.reportWrite (.padType v) ∈ s.trace → v = padOf s.cfg.mode)
    ∧ (s.repValid = true →
        s.report.padType = padOf s.cfg.mode ∧ s.report.buttons = packButtons s.report.rawData
          ∧ s.report.rawData = s.ls ∧ s.report.rawData = s.lr)

/-- An input by which the host honours its duty of serial issue, and which is no reset. -/
def HostInput.isIssue : HostInput → Bool
  | .issue _ _ => true
  | .reset => false
  | .overlapped _ _ => false

/-- The host issues operations only, one at a time. -/
def State.serialHost (s : State) : Prop := ∀ x ∈ s.inputs, x.isIssue = true

/-- Two states agree in everything but the free values: `changed_out`, which outside a successful CHANGED a claim must
not read (93_implementation_defined.md U13), and the counter of free values (log 9). -/
def State.agreesOutsideFree (s t : State) : Prop :=
  s.cfg = t.cfg ∧ s.phase = t.phase ∧ s.ls = t.ls ∧ s.lr = t.lr ∧ s.status = t.status ∧ s.repValid = t.repValid
    ∧ s.report = t.report ∧ s.gpioCfgReq = t.gpioCfgReq ∧ s.atomicWindow = t.atomicWindow ∧ s.pins = t.pins
    ∧ s.inputs = t.inputs ∧ s.trace = t.trace

/-- How many of a byte's bits are 1. -/
def onesOf (v : Byte) : Nat := (List.range 8).countP fun k => v.getLsbD k

end Sys2Proof.Machine
end

