-- ==== Sys2Proof/Certificates/Slice0/Obligations.lean ====
section
/-! DEFINITION. The statements for the provers, one definition each; OBLIGATIONS.json says which rule each formalises. Every statement quantifies over the pins, and over every configuration through the state. -/

open Sys2Proof Sys2Proof.Machine

/-! ## The command word and the step -/

/-- An issued command word is decoded and run, with the input taken and its levels on the pin ports (20_memory.md R52,
30_encoding.md R63); a table word placed by `withFetchWord` is run by the very next step, and every operation has such a
word (the model's own names, log 14). -/
def Obligations.StepRunsDecodedCommand : Prop :=
  (∀ (s : State) (w : CommandWord) (p : PinPair) (rest : List HostInput),
      s.inputs = .issue w p :: rest → step s = exec (decode w) { s with inputs := rest, pins := p })
    ∧ (∀ (s : State) (nbits w : Nat) (i : Instr),
      decodeTableWord nbits w = some i → step (s.withFetchWord nbits w) = exec i s)
    ∧ (∀ i : Instr, decodeTableWord 8 (encode i).toNat = some i)

/-- The opcode map (30_encoding.md R64): what each value of `op` selects, and the five canonical words, both ways. -/
def Obligations.OpcodeMapWords : Prop :=
  (∀ w : CommandWord,
      (w.extractLsb' 0 2 = 0b00#2 → decode w = .init) ∧ (w.extractLsb' 0 2 = 0b01#2 → decode w = .update)
      ∧ (w.extractLsb' 0 2 = 0b10#2 → decode w = .changed)
      ∧ (w.extractLsb' 0 2 = 0b11#2 → decode w = .getreport (w.getLsbD 2)))
    ∧ (decode 0b000#3 = .init ∧ decode 0b001#3 = .update ∧ decode 0b010#3 = .changed
      ∧ decode 0b011#3 = .getreport false ∧ decode 0b111#3 = .getreport true)
    ∧ (encode .init = 0b000#3 ∧ encode .update = 0b001#3 ∧ encode .changed = 0b010#3
      ∧ encode (.getreport false) = 0b011#3 ∧ encode (.getreport true) = 0b111#3)

/-- Encode then decode is the identity; decode then encode clears bit 2 of an alias and keeps every other word; the
three aliases perform what the canonical words do (30_encoding.md R66). -/
def Obligations.DecodeEncodeRoundTrip : Prop :=
  (∀ i : Instr, i.wellFormed = true → decode (encode i) = i)
    ∧ (∀ w : CommandWord, encode (decode w) = if w &&& 0b011#3 = 0b011#3 then w else w &&& 0b011#3)
    ∧ (decode 0b100#3 = decode 0b000#3 ∧ decode 0b101#3 = decode 0b001#3 ∧ decode 0b110#3 = decode 0b010#3)

/-- Every step of an admissible instance to which the host issues serially answers a next state, and no operation or step
of any state ends in a fault. For Ready, and for INIT in either phase, this is the spec's own totality (60_exceptions.md
section 1, 93 section 2). For UPDATE, CHANGED and GETREPORT in Uninitialized it rests on the model's choice of log 3 over
the spec's decision D6: NotInitialized is a next state that records the fault, not a step that ends in one. -/
def Obligations.SerialStepsNeverStop : Prop :=
  (∀ s : State, s.cfg.admissible = true → (∀ a b rest, s.inputs ≠ .overlapped a b :: rest) → ∃ t, step s = .next t)
    ∧ (∀ (s : State) (i : Instr) (f : Fault), step s ≠ .fault f ∧ exec i s ≠ .fault f)

/-- Operations overlapped in time have no meaning and are refused (20_memory.md R52, D20; log 7). -/
def Obligations.OverlapIsRefused : Prop :=
  ∀ (s : State) (a b : CommandWord) (rest : List HostInput),
    s.inputs = .overlapped a b :: rest → step s = .refused .overlappedOperations

/-- Every operation of an instance with an inadmissible configuration is refused, and of no other (42_bit_mapper.md
section 1, the spec's decision D28); and a configuration is admissible exactly when (a) the table of its mode is a
bijection on 0..7, (b) it is the identity on a SNES instance, (c) its entries 0 and 1 are 7 and 6 on a NES instance,
(d) the five extra sources are pairwise different on a SNES instance, (e) `HOME_SRC` is in 0..7. That (b) and (c) bind
the table of the instance's own mode is log 8. -/
def Obligations.InadmissibleIsRefused : Prop :=
  (∀ (i : Instr) (s : State), exec i s = .refused .inadmissibleConfiguration ↔ s.cfg.admissible = false)
  ∧ ∀ c : Config, c.admissible = true ↔
      (let table : Vector (Fin 8) 8 := match c.mode with
        | .nes8Button => c.src0Nes
        | .snes12ButtonHome => c.src0Snes
      Function.Bijective (fun k : Fin 8 => table[k])
      ∧ (c.mode = .snes12ButtonHome → ∀ k : Fin 8, table[k] = k)
      ∧ (c.mode = .nes8Button → table[(0 : Fin 8)] = 7 ∧ table[(1 : Fin 8)] = 6)
      ∧ (c.mode = .snes12ButtonHome →
          [(c.src1[(0 : Fin 4)]).val, (c.src1[(1 : Fin 4)]).val, (c.src1[(2 : Fin 4)]).val, (c.src1[(3 : Fin 4)]).val,
            c.homeSrc].Nodup)
      ∧ c.homeSrc < 8)

/-! ## The four operations -/

/-- The whole table of 44_operations.md section 6: phase after, status, and which registers keep their value; and no step
but a reset leaves Ready. The rows for Uninitialized other than INIT are the spec's decision D6 (a next state by log 3),
the row Ready and INIT its decision D7. -/
def Obligations.PhaseTransitionTable : Prop :=
  (∀ (i : Instr) (s : State), s.cfg.admissible = true → ∃ t, exec i s = .next t ∧
    match s.phase, i with
    | .uninitialized, .init => t.phase = .ready ∧ t.status = .success ∧ t.lr = s.lr
    | .uninitialized, .update => t.phase = .uninitialized ∧ t.status = .notInitialized ∧ t.ls = s.ls ∧ t.lr = s.lr
    | .uninitialized, .changed => t.phase = .uninitialized ∧ t.status = .notInitialized ∧ t.ls = s.ls ∧ t.lr = s.lr
    | .uninitialized, .getreport _ =>
      t.phase = .uninitialized ∧ t.status = .notInitialized ∧ t.ls = s.ls ∧ t.lr = s.lr
    | .ready, .init => t.phase = .ready ∧ t.status = .success ∧ t.lr = s.lr
    | .ready, .update => t.phase = .ready ∧ t.status = .success ∧ t.lr = s.lr
    | .ready, .changed => t.phase = .ready ∧ t.status = .success ∧ t.ls = s.ls ∧ t.lr = s.lr
    | .ready, .getreport _ => t.phase = .ready ∧ t.status = .success ∧ t.ls = s.ls)
  ∧ (∀ s t : State, step s = .next t → s.phase = .ready → t.phase = .uninitialized →
      ∃ rest, s.inputs = .reset :: rest)

/-- INIT in either phase (44_operations.md R111): configure request, then one sample into `LS`, then Ready, SUCCESS;
`LR` and everything else kept; nothing pressed, or no controller, seeds the all-released snapshot. -/
def Obligations.InitEffect : Prop :=
  encode .init = 0b000#3 ∧
  ∀ s : State, s.cfg.admissible = true → ∃ t, exec .init s = .next t
    ∧ t.ls = sample s.cfg s.pins ∧ t.phase = .ready ∧ t.status = .success
    ∧ t.trace = s.trace ++ [.gpioConfigure s.cfg.mode, .pinReadPair s.pins]
    ∧ t.repValid = false
    ∧ t.lr = s.lr ∧ t.report = s.report ∧ t.cfg = s.cfg ∧ t.pins = s.pins ∧ t.inputs = s.inputs
    ∧ (s.pins = ⟨0xFF#8, 0xFF#8⟩ → t.ls = ⟨0x00#8, 0x00#8⟩)

/-- UPDATE (44_operations.md section 3): in Ready one sample overwrites `LS` and nothing else of the instance changes; the
rule's example on every SNES instance; in Uninitialized it is NotInitialized (the spec's decision D6; a next
state by log 3) and nothing is written. -/
def Obligations.UpdateEffect : Prop :=
  encode .update = 0b001#3 ∧
  (∀ s : State, s.cfg.admissible = true → s.phase = .ready → ∃ t, exec .update s = .next t
    ∧ t.ls = sample s.cfg s.pins ∧ t.status = .success
    ∧ t.trace = s.trace ++ [.pinReadPair s.pins]
    ∧ t.phase = .ready ∧ t.lr = s.lr ∧ t.report = s.report ∧ t.repValid = false
    ∧ t.cfg = s.cfg ∧ t.pins = s.pins ∧ t.inputs = s.inputs
    ∧ (s.cfg.mode = .snes12ButtonHome → s.pins = ⟨0xFE#8, 0xFF#8⟩ → t.ls = ⟨0x01#8, 0x00#8⟩))
  ∧ (∀ s : State, s.cfg.admissible = true → s.phase = .uninitialized → ∃ t, exec .update s = .next t
    ∧ t.status = .notInitialized ∧ t.phase = .uninitialized ∧ t.ls = s.ls ∧ t.lr = s.lr ∧ t.report = s.report
    ∧ readsOf t.trace = readsOf s.trace)

/-- CHANGED in Ready (44_operations.md section 4): `changed_out` is 1 exactly when `LS` and `LR` differ; nothing of the
instance changes and no pin is read, so a second CHANGED answers the same. -/
def Obligations.ChangedEffect : Prop :=
  ∀ s : State, s.cfg.admissible = true → s.phase = .ready → ∃ t, exec .changed s = .next t
    ∧ (t.changedOut = true ↔ s.ls ≠ s.lr) ∧ t.status = .success
    ∧ t.phase = .ready ∧ t.ls = s.ls ∧ t.lr = s.lr ∧ t.report = s.report ∧ t.repValid = false
    ∧ t.trace = s.trace ∧ t.cfg = s.cfg ∧ t.pins = s.pins ∧ t.inputs = s.inputs
    ∧ ∃ u, exec .changed t = .next u ∧ u.changedOut = t.changedOut

/-- GETREPORT in Ready (44_operations.md R118): with `d` the three fields are written from `LS` and `MODE`, all of them,
and `rep_valid` is 1; without `d` none is written and `rep_valid` is 0; no pin is read. -/
def Obligations.GetReportFields : Prop :=
  ∀ (d : Bool) (s : State), s.cfg.admissible = true → s.phase = .ready → ∃ t, exec (.getreport d) s = .next t
    ∧ t.repValid = d ∧ t.status = .success ∧ t.phase = .ready ∧ t.ls = s.ls ∧ t.lr = s.ls
    ∧ (d = true →
        t.report.padType = (match s.cfg.mode with | .nes8Button => .nes | .snes12ButtonHome => .snes)
        ∧ t.report.buttons.extractLsb' 0 8 = s.ls.byte0 ∧ t.report.buttons.extractLsb' 8 8 = s.ls.byte1
        ∧ t.report.rawData = s.ls
        ∧ t.trace = s.trace ++ [.reportWrite (.padType t.report.padType), .reportWrite (.buttons t.report.buttons),
            .reportWrite (.rawData t.report.rawData)])
    ∧ (d = false → t.report = s.report ∧ t.trace = s.trace)
    ∧ t.cfg = s.cfg ∧ t.pins = s.pins ∧ t.inputs = s.inputs

/-- The commit (44_operations.md R115): every GETREPORT in Ready copies `LS` into `LR`, the report fields of a supplied
record carry that same `LS`, no other operation writes `LR`, and from then on CHANGED_FN(`LS`, `LR`) stays 0 until an
UPDATE or INIT writes a different `LS`: through any number of steps of a host that issues CHANGED, GETREPORT, and such
UPDATEs and INITs whose sample is the `LS` that was committed, every status is SUCCESS. -/
def Obligations.CommitClearsPendingChange : Prop :=
  (∀ (d : Bool) (s : State), s.cfg.admissible = true → s.phase = .ready → ∃ t, exec (.getreport d) s = .next t
    ∧ t.lr = s.ls ∧ (d = true → t.report.rawData = t.lr ∧ t.report.buttons = packButtons t.lr)
    ∧ ∃ u, exec .changed t = .next u ∧ u.changedOut = false)
  ∧ (∀ (i : Instr) (s t : State), exec i s = .next t → (∀ d, i ≠ .getreport d) → t.lr = s.lr)
  ∧ (∀ (s : State) (w : CommandWord) (p : PinPair) (rest : List HostInput) (d : Bool),
      s.cfg.admissible = true → s.phase = .ready → s.inputs = .issue w p :: rest → decode w = .getreport d →
      (∀ x ∈ rest, ∃ v q, x = .issue v q ∧ (decode v = .changed ∨ (∃ e, decode v = .getreport e)
        ∨ ((decode v = .update ∨ decode v = .init) ∧ sample s.cfg q = s.ls))) →
      ∀ k, ∃ t, core.run (k + 1) s = .next t ∧ changedFn t.ls t.lr = false ∧ t.status = .success)

/-- NotInitialized (44_operations.md section 1, the spec's decision D6): UPDATE, CHANGED and GETREPORT in phase
Uninitialized end with status NOT_INITIALIZED; no pin is read, no register and no report field is written, `rep_valid`
is 0. That the machine goes on and its launch record keeps the fault is log 3. -/
def Obligations.NotInitializedWritesNothing : Prop :=
  ∀ (i : Instr) (s : State), s.cfg.admissible = true → s.phase = .uninitialized → i ≠ .init →
    ∃ t, exec i s = .next t
      ∧ t.status = .notInitialized ∧ t.phase = .uninitialized ∧ t.ls = s.ls ∧ t.lr = s.lr
      ∧ t.report = s.report ∧ t.repValid = false ∧ t.gpioCfgReq = none ∧ t.atomicWindow = false
      ∧ t.trace = s.trace ++ [.raised (.notInitialized i)]
      ∧ t.cfg = s.cfg ∧ t.pins = s.pins ∧ t.inputs = s.inputs

/-- A second INIT (44_operations.md section 6, the spec's decision D7) is an UPDATE preceded by a configure request: the
same state, but for the request port (log 12) and outside the free values (log 9). -/
def Obligations.SecondInitIsUpdateAfterConfigure : Prop :=
  ∀ s : State, s.cfg.admissible = true → s.phase = .ready →
    ∃ t u, exec .init s = .next t ∧ exec .update { s with trace := s.trace ++ [.gpioConfigure s.cfg.mode] } = .next u
      ∧ t.agreesOutsideFree { u with gpioCfgReq := some s.cfg.mode }

/-- Two GETREPORTs with a record and no sample between them deliver equal reports, and the second leaves `LR` as it is,
whatever sequence of CHANGED and GETREPORT stands between them, the empty one included (44_operations.md section 7). -/
def Obligations.RepeatedReportsAreEqual : Prop :=
  ∀ (s : State) (w w' : CommandWord) (p p' : PinPair) (between rest : List HostInput),
    s.cfg.admissible = true → s.phase = .ready →
    s.inputs = .issue w p :: (between ++ .issue w' p' :: rest) →
    decode w = .getreport true → decode w' = .getreport true →
    (∀ x ∈ between, ∃ v q, x = .issue v q ∧ (decode v = .changed ∨ ∃ d, decode v = .getreport d)) →
    ∃ t v, step s = .next t ∧ core.run (between.length + 2) s = .next v
      ∧ t.repValid = true ∧ v.repValid = true ∧ v.report = t.report ∧ v.lr = t.lr ∧ v.inputs = rest

/-- Exactly one paired read for each INIT and each UPDATE in Ready, and none for CHANGED and GETREPORT: never two, never
an earlier sample in its place (20_memory.md section 11; 44_operations.md sections 1, 2, 3, 4 and 5; that a second INIT
samples again is the spec's decision D7). That CHANGED and GETREPORT answer a next state in Uninitialized too is the
model's choice of log 3 over the spec's decision D6. -/
def Obligations.OnePairedReadPerSample : Prop :=
  ∀ s : State, s.cfg.admissible = true →
    (∃ t, exec .init s = .next t ∧ readsOf t.trace = readsOf s.trace ++ [s.pins] ∧ t.ls = sample s.cfg s.pins)
    ∧ (s.phase = .ready →
        ∃ t, exec .update s = .next t ∧ readsOf t.trace = readsOf s.trace ++ [s.pins] ∧ t.ls = sample s.cfg s.pins)
    ∧ (∃ t, exec .changed s = .next t ∧ readsOf t.trace = readsOf s.trace)
    ∧ (∀ d, ∃ t, exec (.getreport d) s = .next t ∧ readsOf t.trace = readsOf s.trace)

/-- The two pulse ports, as they stood during the operation (30_encoding.md section 11; that they are recorded so is
log 12): the configure request by INIT alone, with its mode; the window exactly by the operations that read the pins.
That UPDATE, CHANGED and GETREPORT answer a next state in Uninitialized is the model's choice of log 3 over the spec's
decision D6. -/
def Obligations.PulsePortsDuringOperation : Prop :=
  ∀ (i : Instr) (s : State), s.cfg.admissible = true → ∃ t, exec i s = .next t
    ∧ t.gpioCfgReq = (match i with
      | .init => some s.cfg.mode
      | .update | .changed | .getreport _ => none)
    ∧ (t.atomicWindow = true ↔ readsOf t.trace ≠ readsOf s.trace)

/-- `LR` (10_state.md R22): written by GETREPORT alone, with `LS`; not written by INIT and UPDATE; read by CHANGED; not
read by GETREPORT, whose next state is the same whatever `LR` held (compared outside the free values, of which U13 lets a
claim say nothing: log 9). -/
def Obligations.LastReportedWrittenByGetReportAlone : Prop :=
  (∀ (i : Instr) (s t : State), exec i s = .next t → (∀ d, i ≠ .getreport d) → t.lr = s.lr)
  ∧ (∀ (d : Bool) (s : State), s.cfg.admissible = true → s.phase = .ready →
      ∃ t, exec (.getreport d) s = .next t ∧ t.lr = s.ls
        ∧ ∀ x : PinSnapshot, ∃ u, exec (.getreport d) { s with lr := x } = .next u ∧ u.agreesOutsideFree t)
  ∧ (∀ s : State, s.cfg.admissible = true → s.phase = .ready →
      ∃ t, exec .changed s = .next t ∧ (t.changedOut = true ↔ s.ls ≠ s.lr))

/-- Who writes what in one step (10_state.md sections 2, 3 and 11): a changed `LS` means a reset, an INIT or an UPDATE,
a changed `LR` a reset or a GETREPORT, a changed phase a reset or an INIT; the configuration is never written. -/
def Obligations.StepWritersOfEachRegister : Prop :=
  ∀ s t : State, step s = .next t →
    t.cfg = s.cfg
    ∧ (t.ls ≠ s.ls → (∃ r, s.inputs = .reset :: r)
        ∨ ∃ w p r, s.inputs = .issue w p :: r ∧ (decode w = .init ∨ decode w = .update))
    ∧ (t.lr ≠ s.lr → (∃ r, s.inputs = .reset :: r)
        ∨ ∃ w p r d, s.inputs = .issue w p :: r ∧ decode w = .getreport d)
    ∧ (t.phase ≠ s.phase → (∃ r, s.inputs = .reset :: r)
        ∨ ∃ w p r, s.inputs = .issue w p :: r ∧ decode w = .init)

/-- CHANGED and GETREPORT speak of the last sample, not of the pins (70_reset_and_hazards.md section 3): other levels on
the pins give the same next state but for those levels, outside the free values (log 9), and a CHANGED in Ready the same
answer. That there is a next state in Uninitialized too is the model's choice of log 3 over the spec's decision D6. -/
def Obligations.ReportingIgnoresPins : Prop :=
  ∀ (i : Instr) (s : State) (p : PinPair), s.cfg.admissible = true → (i = .changed ∨ ∃ d, i = .getreport d) →
    ∃ t u, exec i s = .next t ∧ exec i { s with pins := p } = .next u ∧ u.agreesOutsideFree { t with pins := p }
      ∧ (i = .changed → s.phase = .ready → u.changedOut = t.changedOut)

/-! ## The datapath -/

/-- RESOLVE is the table, entry by entry (41_dpad_resolver.md R85), and the table realises the policy: Up wins over
Down, Right wins over Left, the rest passes (41_dpad_resolver.md section 1). -/
def Obligations.DpadTableAndPolicy : Prop :=
  (List.range 16).map (fun i => (resolve (BitVec.ofNat 4 i)).toNat)
      = [0, 1, 2, 1, 4, 5, 6, 5, 8, 9, 10, 9, 8, 9, 10, 9]
  ∧ ∀ d : DpadField,
    (resolve d).getLsbD 0 = d.getLsbD 0 ∧ (resolve d).getLsbD 1 = (d.getLsbD 1 && !d.getLsbD 0)
    ∧ (resolve d).getLsbD 2 = (d.getLsbD 2 && !d.getLsbD 3) ∧ (resolve d).getLsbD 3 = d.getLsbD 3

/-- Logical byte 0 is the bus-0 byte permuted by `SRC0[MODE]` (42_bit_mapper.md R96): bit by bit, and no 1 is lost or
made. The two tables are those of an admissible configuration: the identity on a SNES instance, B on line 7 and A on
line 6 on a NES instance. -/
def Obligations.RemapPermutesPrimaryBus : Prop :=
  ∀ (c : Config) (r0 a1 : Byte), c.admissible = true →
    (∀ k : Fin 8, (remap c r0 a1).byte0.getLsbD k.val = r0.getLsbD (c.src0[k]).val)
    ∧ onesOf (remap c r0 a1).byte0 = onesOf r0
    ∧ (c.mode = .snes12ButtonHome → (remap c r0 a1).byte0 = r0)
    ∧ (c.mode = .nes8Button →
        (remap c r0 a1).byte0.getLsbD 0 = r0.getLsbD 7 ∧ (remap c r0 a1).byte0.getLsbD 1 = r0.getLsbD 6)

/-- On a NES instance byte 1 carries Home, at canonical bit 12, and nothing else (42_bit_mapper.md R97). -/
def Obligations.NesByteOneIsHomeAlone : Prop :=
  ∀ (c : Config) (r0 a1 : Byte), c.admissible = true → c.mode = .nes8Button →
    (remap c r0 a1).byte1 = if a1.getLsbD c.homeSrc then 0x10#8 else 0x00#8

/-- On a SNES instance byte 1 carries A, X, L, R, Home and three zeros (42_bit_mapper.md section 3, the spec's decisions
D11 and D12). -/
def Obligations.SnesByteOneLayout : Prop :=
  ∀ (c : Config) (r0 a1 : Byte), c.admissible = true → c.mode = .snes12ButtonHome →
    (∀ k : Fin 4, (remap c r0 a1).byte1.getLsbD k.val = a1.getLsbD (c.src1[k]).val)
    ∧ (remap c r0 a1).byte1.getLsbD 4 = a1.getLsbD c.homeSrc
    ∧ (remap c r0 a1).byte1.extractLsb' 5 3 = 0#3

/-- Every bit of the button mask of a sample, in the canonical layout (30_encoding.md section 1), from the levels of the
sixteen lines: low = pressed, Up wins, Right wins. -/
def Obligations.SampleInCanonicalLayout : Prop :=
  ∀ (c : Config) (p : PinPair), c.admissible = true →
    let low0 (k : Fin 8) : Bool := !p.pins0.getLsbD (c.src0[k]).val
    let low1 (k : Fin 4) : Bool := !p.pins1.getLsbD (c.src1[k]).val
    let m := packButtons (sample c p)
    (m.getLsbD 0 = low0 0 ∧ m.getLsbD 1 = low0 1 ∧ m.getLsbD 2 = low0 2 ∧ m.getLsbD 3 = low0 3)
    ∧ (m.getLsbD 4 = low0 4 ∧ m.getLsbD 5 = (low0 5 && !low0 4)
      ∧ m.getLsbD 6 = (low0 6 && !low0 7) ∧ m.getLsbD 7 = low0 7)
    ∧ (∀ k : Fin 4, m.getLsbD (8 + k.val) =
        match c.mode with | .nes8Button => false | .snes12ButtonHome => low1 k)
    ∧ m.getLsbD 12 = !p.pins1.getLsbD c.homeSrc
    ∧ (m.getLsbD 13 = false ∧ m.getLsbD 14 = false ∧ m.getLsbD 15 = false)

/-- Resolving before the permutation and resolving after it give the same sample, for every admissible wiring and every
pair of bus bytes (40_sampler.md section 4). -/
def Obligations.ResolveThenRemapEqualsRemapThenResolve : Prop :=
  ∀ (c : Config) (p : PinPair), c.admissible = true → sample c p = samplePermutedFirst c p

/-- Lines that no table selects have no effect (42_bit_mapper.md section 3, the spec's decision D13): two pairs that
agree on bus 0 and on the selected lines of bus 1 give the same snapshot. -/
def Obligations.UnwiredLinesHaveNoEffect : Prop :=
  ∀ (c : Config) (p q : PinPair), c.admissible = true → p.pins0 = q.pins0 →
    p.pins1.getLsbD c.homeSrc = q.pins1.getLsbD c.homeSrc →
    (c.mode = .snes12ButtonHome → ∀ k : Fin 4, p.pins1.getLsbD (c.src1[k]).val = q.pins1.getLsbD (c.src1[k]).val) →
    sample c p = sample c q

/-- CHANGED_FN is 1 exactly when some bit of either byte differs (43_change_detector.md R105). -/
def Obligations.ChangeDetectorSeesEveryBit : Prop :=
  ∀ cur last : PinSnapshot, changedFn cur last = true ↔
    ∃ k, k < 8 ∧ (cur.byte0.getLsbD k ≠ last.byte0.getLsbD k ∨ cur.byte1.getLsbD k ≠ last.byte1.getLsbD k)

/-! ## Reset -/

/-- The reset input (70_reset_and_hazards.md section 1; the two register values are the spec's decision D8, log 11; that
reset comes as an input of its own is log 13, that an inadmissible instance takes it too log 8): the registers at their
reset values, `rep_valid` 0, the configuration kept, no pin read, no request sent, no report field written. -/
def Obligations.ResetInputEffect : Prop :=
  ∀ (s : State) (rest : List HostInput), s.inputs = .reset :: rest → ∃ t, step s = .next t
    ∧ t.phase = .uninitialized ∧ t.ls = ⟨0x00#8, 0x00#8⟩ ∧ t.lr = ⟨0x00#8, 0x00#8⟩ ∧ t.repValid = false
    ∧ t.gpioCfgReq = none ∧ t.atomicWindow = false ∧ t.cfg = s.cfg ∧ t.trace = s.trace ∧ t.inputs = rest

/-- From a newly constructed instance with any admissible configuration, INIT with nothing pressed, whatever the unwired
lines read, then GETREPORT with a record: an all-zero report of the instance's pad type (44_operations.md section 8,
"All-released baseline"). -/
def Obligations.AllReleasedBaseline : Prop :=
  ∀ (c : Config) (p : PinPair), c.admissible = true → p.pins0 = 0xFF#8 → p.pins1.getLsbD c.homeSrc = true →
    (c.mode = .snes12ButtonHome → ∀ k : Fin 4, p.pins1.getLsbD (c.src1[k]).val = true) →
    ∃ t u, exec .init { State.resetOf c with pins := p } = .next t ∧ exec (.getreport true) t = .next u
      ∧ u.report = ⟨padOf c.mode, 0x0000#16, ⟨0x00#8, 0x00#8⟩⟩ ∧ u.repValid = true ∧ u.lr = ⟨0x00#8, 0x00#8⟩

/-- Directly after INIT following reset, CHANGED answers 1 exactly when something was pressed at INIT: when some line that
carries a button stood low (44_operations.md section 4; it rests on the reset value of `LR`, the spec's decision D8,
log 11; that no pressed direction is lost altogether is 41_dpad_resolver.md section 3). -/
def Obligations.FirstChangedAfterReset : Prop :=
  ∀ (c : Config) (p : PinPair), c.admissible = true →
    ∃ t u, exec .init { State.resetOf c with pins := p } = .next t ∧ exec .changed t = .next u
      ∧ (u.changedOut = true ↔
          (∃ k : Fin 8, p.pins0.getLsbD (c.src0[k]).val = false) ∨ p.pins1.getLsbD c.homeSrc = false
            ∨ (c.mode = .snes12ButtonHome ∧ ∃ k : Fin 4, p.pins1.getLsbD (c.src1[k]).val = false))

/-- Idempotence (44_operations.md section 8): an UPDATE with the pins of the UPDATE before it leaves `LS`, and so the
answer of CHANGED, as the first left them, whatever CHANGEDs stand between. -/
def Obligations.RepeatedUpdateIsIdempotent : Prop :=
  ∀ s : State, s.cfg.admissible = true → s.phase = .ready →
    ∃ t u v w x, exec .update s = .next t ∧ exec .changed t = .next u ∧ exec .update u = .next v
      ∧ exec .changed v = .next w ∧ exec .changed s = .next x
      ∧ v.ls = t.ls ∧ w.changedOut = u.changedOut
      ∧ (s.ls = sample s.cfg s.pins → u.changedOut = x.changedOut)

/-! ## Invariants and runs -/

/-- The three invariants below hold of every newly constructed instance, and so at reset. -/
def Obligations.InvariantsHoldAtReset : Prop :=
  (∀ c : Config, (State.resetOf c).lawful ∧ (State.resetOf c).holdsLatestSample ∧ (State.resetOf c).reportsAgree)
    ∧ State.reset.lawful ∧ State.reset.holdsLatestSample ∧ State.reset.reportsAgree

/-- Every step keeps both snapshot registers lawful (10_state.md section 9): bits 13 to 15 zero, no opposite directions,
on a NES instance nothing but Home in byte 1. -/
def Obligations.StepKeepsSnapshotsLawful : Prop :=
  ∀ s t : State, s.lawful → step s = .next t → t.lawful

/-- Every step keeps it true that a Ready instance's `LS` is the sample of the most recent paired read
(70_reset_and_hazards.md section 3, 10_state.md section 7). -/
def Obligations.StepKeepsLatestSample : Prop :=
  ∀ s t : State, s.holdsLatestSample → step s = .next t → t.holdsLatestSample

/-- Mode isolation (44_operations.md section 8) and the agreement of a valid report's fields (30_encoding.md section 3):
every step keeps both. -/
def Obligations.StepKeepsReportsConsistent : Prop :=
  ∀ s t : State, s.reportsAgree → step s = .next t → t.reportsAgree

/-- In Ready every operation returns SUCCESS, INIT in both phases; and every run of a serial host that starts with INIT
goes on for any number of steps with SUCCESS, Ready and no NotInitialized (44_operations.md R117). -/
def Obligations.RunsStartingWithInitSucceed : Prop :=
  (∀ (i : Instr) (s : State), s.cfg.admissible = true → s.phase = .ready ∨ i = .init →
    ∃ t, exec i s = .next t ∧ t.status = .success)
  ∧ (∀ (s : State) (w : CommandWord) (p : PinPair) (rest : List HostInput),
      s.cfg.admissible = true → s.inputs = .issue w p :: rest → decode w = .init → (∀ x ∈ rest, x.isIssue = true) →
      ∀ k, ∃ t, core.run (k + 1) s = .next t ∧ t.status = .success ∧ t.phase = .ready
        ∧ faultsOf t.trace = faultsOf s.trace)
end

