-- ==== Sys2Proof/Laws/Bits.lean ====
section
/-! SUPPORT. What the bit-assembling helpers of the datapath give, bit by bit, and what an admissible configuration says of its lines. -/

namespace Sys2Proof.Machine

theorem byteOfBits_getLsbD (f : Nat → Bool) {k : Nat} (hk : k < 8) : (byteOfBits f).getLsbD k = f k := by
  unfold byteOfBits
  rw [BitVec.getLsbD_ofBoolListLE]
  interval_cases k <;> rfl

theorem fieldOfBits_getLsbD (f : Nat → Bool) {k : Nat} (hk : k < 4) : (fieldOfBits f).getLsbD k = f k := by
  unfold fieldOfBits
  rw [BitVec.getLsbD_ofBoolListLE]
  interval_cases k <;> rfl

/-- Two bytes are equal when their eight bits are. -/
theorem byte_ext {a b : Byte} (h : ∀ k, k < 8 → a.getLsbD k = b.getLsbD k) : a = b :=
  BitVec.eq_of_getLsbD_eq fun k hk => h k hk

theorem setBit_getLsbD (v : Byte) (k j : Nat) (b : Bool) (hk : k < 8) (hj : j < 8) :
    (setBit v k b).getLsbD j = if j = k then b else v.getLsbD j := by
  unfold setBit
  cases b <;> interval_cases k <;> interval_cases j <;> simp

/-- The policy of the dpad table, bit by bit (41_dpad_resolver.md R86). -/
theorem resolve_getLsbD_zero (d : DpadField) : (resolve d).getLsbD 0 = d.getLsbD 0 := by revert d; decide
theorem resolve_getLsbD_one (d : DpadField) : (resolve d).getLsbD 1 = (d.getLsbD 1 && !d.getLsbD 0) := by
  revert d; decide
theorem resolve_getLsbD_two (d : DpadField) : (resolve d).getLsbD 2 = (d.getLsbD 2 && !d.getLsbD 3) := by
  revert d; decide
theorem resolve_getLsbD_three (d : DpadField) : (resolve d).getLsbD 3 = d.getLsbD 3 := by revert d; decide

theorem line0_lt (c : Config) (k : Nat) : line0 c k < 8 := by
  unfold line0; split
  · exact (c.src0[k]).isLt
  · decide

theorem line1_lt (c : Config) (k : Nat) : line1 c k < 8 := by
  unfold line1; split
  · exact (c.src1[k]).isLt
  · decide

/-- The five checks of 42_bit_mapper.md R95, taken apart. -/
theorem admissible_iff (c : Config) :
    c.admissible = true ↔ c.lines0Bijective = true ∧ c.snesIdentity = true ∧ c.nesSwap = true
      ∧ c.extraDistinct = true ∧ c.homeInRange = true := by
  simp [Config.admissible, and_assoc]

/-- R95 (a): different logical bits have different lines. -/
theorem line0_inj {c : Config} (h : c.admissible = true) {i j : Nat} (hi : i < 8) (hj : j < 8)
    (e : line0 c i = line0 c j) : i = j := by
  have h1 := ((admissible_iff c).1 h).1
  simp only [Config.lines0Bijective, Bool.and_eq_true, decide_eq_true_eq] at h1
  have e' : c.src0[(⟨i, hi⟩ : Fin 8)] = c.src0[(⟨j, hj⟩ : Fin 8)] := by
    apply Fin.ext
    simpa [line0, hi, hj] using e
  simpa using h1.1 ⟨i, hi⟩ ⟨j, hj⟩ e'

/-- R95 (a): every line carries a button. -/
theorem line0_surj {c : Config} (h : c.admissible = true) {l : Nat} (hl : l < 8) :
    ∃ k, k < 8 ∧ line0 c k = l := by
  have h1 := ((admissible_iff c).1 h).1
  simp only [Config.lines0Bijective, Bool.and_eq_true, decide_eq_true_eq] at h1
  obtain ⟨k, hk⟩ := h1.2 ⟨l, hl⟩
  refine ⟨k, k.isLt, ?_⟩
  simpa [line0] using congrArg Fin.val hk

theorem homeSrc_lt {c : Config} (h : c.admissible = true) : c.homeSrc < 8 := by
  simpa [Config.homeInRange] using ((admissible_iff c).1 h).2.2.2.2

theorem remapByte0_getLsbD (c : Config) (r : Byte) {k : Nat} (hk : k < 8) :
    (remapByte0 c r).getLsbD k = r.getLsbD (line0 c k) := by
  unfold remapByte0; rw [byteOfBits_getLsbD _ hk]

theorem changedFn_eq_false (x y : PinSnapshot) : changedFn x y = false ↔ x = y := by
  cases x; cases y; simp [changedFn]

@[simp] theorem changedFn_self (x : PinSnapshot) : changedFn x x = false := (changedFn_eq_false x x).2 rfl

end Sys2Proof.Machine
end

