-- ==== Sys2Proof/Laws/Datapath.lean ====
section
/-! SUPPORT. What each function of the datapath gives, bit by bit: one lemma a function, for the proofs to cite. -/

namespace Sys2Proof.Machine

theorem line0_fin (c : Config) (k : Fin 8) : line0 c k.val = (c.src0[k]).val := by simp [line0]

theorem line1_fin (c : Config) (k : Fin 4) : line1 c k.val = (c.src1[k]).val := by simp [line1]

/-- Polarity: the active bit is the complement of the level (40_sampler.md R77). -/
theorem active_getLsbD (v : Byte) {k : Nat} (hk : k < 8) : (~~~v).getLsbD k = !v.getLsbD k := by simp [hk]

theorem rawDpad_getLsbD (c : Config) (a : Byte) {i : Nat} (hi : i < 4) :
    (rawDpad c a).getLsbD i = a.getLsbD (line0 c (4 + i)) := by
  unfold rawDpad; rw [fieldOfBits_getLsbD _ hi]

/-- Putting the dpad back touches its four lines alone, whatever the admissible wiring. -/
theorem putDpad_getLsbD {c : Config} (h : c.admissible = true) (a : Byte) (d : DpadField) {k : Nat} (hk : k < 8) :
    (putDpad c a d).getLsbD (line0 c k) = if 4 ≤ k then d.getLsbD (k - 4) else a.getLsbD (line0 c k) := by
  have e : ∀ j, j < 8 → (line0 c k = line0 c j ↔ k = j) := fun j hj =>
    ⟨line0_inj h hk hj, fun q => by rw [q]⟩
  simp only [putDpad, List.foldl, setBit_getLsbD _ _ _ _ (line0_lt c _) (line0_lt c k), e 4 (by decide), e 5 (by decide),
    e 6 (by decide), e 7 (by decide), Nat.reduceAdd]
  interval_cases k <;> simp

theorem sample_byte0_getLsbD {c : Config} (h : c.admissible = true) (p : PinPair) {k : Nat} (hk : k < 8) :
    (sample c p).byte0.getLsbD k =
      if 4 ≤ k then (resolve (rawDpad c (~~~p.pins0))).getLsbD (k - 4) else (~~~p.pins0).getLsbD (line0 c k) := by
  simp only [sample, remap]
  rw [remapByte0_getLsbD _ _ hk, putDpad_getLsbD h _ _ hk]

theorem remapByte1_getLsbD (c : Config) (a : Byte) {k : Nat} (hk : k < 8) :
    (remapByte1 c a).getLsbD k =
      if k = 4 then a.getLsbD c.homeSrc
      else match c.mode with
        | .nes8Button => false
        | .snes12ButtonHome => decide (k < 4) && a.getLsbD (line1 c k) := by
  unfold remapByte1; rw [byteOfBits_getLsbD _ hk]; rfl

theorem packButtons_getLsbD_low (x : PinSnapshot) {k : Nat} (hk : k < 8) :
    (packButtons x).getLsbD k = x.byte0.getLsbD k := by
  simp [packButtons, hk, BitVec.getLsbD_setWidth]; omega

theorem packButtons_getLsbD_high (x : PinSnapshot) {k : Nat} (hk : k < 8) :
    (packButtons x).getLsbD (8 + k) = x.byte1.getLsbD k := by
  simp [packButtons, BitVec.getLsbD_setWidth]
  simp [show 8 + k < 16 by omega, show k < 16 by omega]

/-- R95 (b). -/
theorem src0_of_snes {c : Config} (h : c.admissible = true) (hm : c.mode = .snes12ButtonHome) (k : Fin 8) :
    c.src0[k] = k := by
  have := ((admissible_iff c).1 h).2.1
  simp only [Config.snesIdentity, hm, decide_eq_true_eq] at this
  exact this k

/-- R95 (c). -/
theorem src0_of_nes {c : Config} (h : c.admissible = true) (hm : c.mode = .nes8Button) :
    c.src0[(0 : Fin 8)] = 7 ∧ c.src0[(1 : Fin 8)] = 6 := by
  have := ((admissible_iff c).1 h).2.2.1
  simpa only [Config.nesSwap, hm, decide_eq_true_eq] using this

end Sys2Proof.Machine
end

