-- ==== Sys2Proof/Laws/State.lean ====
section
/-! SUPPORT. One lemma per field per named operation: what the field holds afterwards. No later proof unfolds a record update. -/

namespace Sys2Proof.Machine

variable (s : State)

/-! ### State.record -/

@[simp] theorem State.record_cfg (e : Event) : (s.record e).cfg = s.cfg := rfl
@[simp] theorem State.record_phase (e : Event) : (s.record e).phase = s.phase := rfl
@[simp] theorem State.record_ls (e : Event) : (s.record e).ls = s.ls := rfl
@[simp] theorem State.record_lr (e : Event) : (s.record e).lr = s.lr := rfl
@[simp] theorem State.record_status (e : Event) : (s.record e).status = s.status := rfl
@[simp] theorem State.record_changedOut (e : Event) : (s.record e).changedOut = s.changedOut := rfl
@[simp] theorem State.record_repValid (e : Event) : (s.record e).repValid = s.repValid := rfl
@[simp] theorem State.record_report (e : Event) : (s.record e).report = s.report := rfl
@[simp] theorem State.record_gpioCfgReq (e : Event) : (s.record e).gpioCfgReq = s.gpioCfgReq := rfl
@[simp] theorem State.record_atomicWindow (e : Event) : (s.record e).atomicWindow = s.atomicWindow := rfl
@[simp] theorem State.record_pins (e : Event) : (s.record e).pins = s.pins := rfl
@[simp] theorem State.record_inputs (e : Event) : (s.record e).inputs = s.inputs := rfl
@[simp] theorem State.record_trace (e : Event) : (s.record e).trace = s.trace ++ [e] := rfl
@[simp] theorem State.record_freeCount (e : Event) : (s.record e).freeCount = s.freeCount := rfl

/-! ### State.begin -/

@[simp] theorem State.begin_cfg : s.begin.cfg = s.cfg := rfl
@[simp] theorem State.begin_phase : s.begin.phase = s.phase := rfl
@[simp] theorem State.begin_ls : s.begin.ls = s.ls := rfl
@[simp] theorem State.begin_lr : s.begin.lr = s.lr := rfl
@[simp] theorem State.begin_status : s.begin.status = s.status := rfl
@[simp] theorem State.begin_changedOut : s.begin.changedOut = s.changedOut := rfl
@[simp] theorem State.begin_repValid : s.begin.repValid = false := rfl
@[simp] theorem State.begin_report : s.begin.report = s.report := rfl
@[simp] theorem State.begin_gpioCfgReq : s.begin.gpioCfgReq = none := rfl
@[simp] theorem State.begin_atomicWindow : s.begin.atomicWindow = false := rfl
@[simp] theorem State.begin_pins : s.begin.pins = s.pins := rfl
@[simp] theorem State.begin_inputs : s.begin.inputs = s.inputs := rfl
@[simp] theorem State.begin_trace : s.begin.trace = s.trace := rfl
@[simp] theorem State.begin_freeCount : s.begin.freeCount = s.freeCount := rfl

/-! ### State.gpioConfigure -/

@[simp] theorem State.gpioConfigure_cfg : s.gpioConfigure.cfg = s.cfg := rfl
@[simp] theorem State.gpioConfigure_phase : s.gpioConfigure.phase = s.phase := rfl
@[simp] theorem State.gpioConfigure_ls : s.gpioConfigure.ls = s.ls := rfl
@[simp] theorem State.gpioConfigure_lr : s.gpioConfigure.lr = s.lr := rfl
@[simp] theorem State.gpioConfigure_status : s.gpioConfigure.status = s.status := rfl
@[simp] theorem State.gpioConfigure_changedOut : s.gpioConfigure.changedOut = s.changedOut := rfl
@[simp] theorem State.gpioConfigure_repValid : s.gpioConfigure.repValid = s.repValid := rfl
@[simp] theorem State.gpioConfigure_report : s.gpioConfigure.report = s.report := rfl
@[simp] theorem State.gpioConfigure_gpioCfgReq : s.gpioConfigure.gpioCfgReq = some s.cfg.mode := rfl
@[simp] theorem State.gpioConfigure_atomicWindow : s.gpioConfigure.atomicWindow = s.atomicWindow := rfl
@[simp] theorem State.gpioConfigure_pins : s.gpioConfigure.pins = s.pins := rfl
@[simp] theorem State.gpioConfigure_inputs : s.gpioConfigure.inputs = s.inputs := rfl
@[simp] theorem State.gpioConfigure_trace : s.gpioConfigure.trace = s.trace ++ [.gpioConfigure s.cfg.mode] := rfl
@[simp] theorem State.gpioConfigure_freeCount : s.gpioConfigure.freeCount = s.freeCount := rfl

/-! ### State.sampleIntoLs -/

@[simp] theorem State.sampleIntoLs_cfg : s.sampleIntoLs.cfg = s.cfg := rfl
@[simp] theorem State.sampleIntoLs_phase : s.sampleIntoLs.phase = s.phase := rfl
@[simp] theorem State.sampleIntoLs_ls : s.sampleIntoLs.ls = sample s.cfg s.pins := rfl
@[simp] theorem State.sampleIntoLs_lr : s.sampleIntoLs.lr = s.lr := rfl
@[simp] theorem State.sampleIntoLs_status : s.sampleIntoLs.status = s.status := rfl
@[simp] theorem State.sampleIntoLs_changedOut : s.sampleIntoLs.changedOut = s.changedOut := rfl
@[simp] theorem State.sampleIntoLs_repValid : s.sampleIntoLs.repValid = s.repValid := rfl
@[simp] theorem State.sampleIntoLs_report : s.sampleIntoLs.report = s.report := rfl
@[simp] theorem State.sampleIntoLs_gpioCfgReq : s.sampleIntoLs.gpioCfgReq = s.gpioCfgReq := rfl
@[simp] theorem State.sampleIntoLs_atomicWindow : s.sampleIntoLs.atomicWindow = true := rfl
@[simp] theorem State.sampleIntoLs_pins : s.sampleIntoLs.pins = s.pins := rfl
@[simp] theorem State.sampleIntoLs_inputs : s.sampleIntoLs.inputs = s.inputs := rfl
@[simp] theorem State.sampleIntoLs_trace : s.sampleIntoLs.trace = s.trace ++ [.pinReadPair s.pins] := rfl
@[simp] theorem State.sampleIntoLs_freeCount : s.sampleIntoLs.freeCount = s.freeCount := rfl

/-! ### State.enterReady -/

@[simp] theorem State.enterReady_cfg : s.enterReady.cfg = s.cfg := rfl
@[simp] theorem State.enterReady_phase : s.enterReady.phase = .ready := rfl
@[simp] theorem State.enterReady_ls : s.enterReady.ls = s.ls := rfl
@[simp] theorem State.enterReady_lr : s.enterReady.lr = s.lr := rfl
@[simp] theorem State.enterReady_status : s.enterReady.status = s.status := rfl
@[simp] theorem State.enterReady_changedOut : s.enterReady.changedOut = s.changedOut := rfl
@[simp] theorem State.enterReady_repValid : s.enterReady.repValid = s.repValid := rfl
@[simp] theorem State.enterReady_report : s.enterReady.report = s.report := rfl
@[simp] theorem State.enterReady_gpioCfgReq : s.enterReady.gpioCfgReq = s.gpioCfgReq := rfl
@[simp] theorem State.enterReady_atomicWindow : s.enterReady.atomicWindow = s.atomicWindow := rfl
@[simp] theorem State.enterReady_pins : s.enterReady.pins = s.pins := rfl
@[simp] theorem State.enterReady_inputs : s.enterReady.inputs = s.inputs := rfl
@[simp] theorem State.enterReady_trace : s.enterReady.trace = s.trace := rfl
@[simp] theorem State.enterReady_freeCount : s.enterReady.freeCount = s.freeCount := rfl

/-! ### State.commit -/

@[simp] theorem State.commit_cfg : s.commit.cfg = s.cfg := rfl
@[simp] theorem State.commit_phase : s.commit.phase = s.phase := rfl
@[simp] theorem State.commit_ls : s.commit.ls = s.ls := rfl
@[simp] theorem State.commit_lr : s.commit.lr = s.ls := rfl
@[simp] theorem State.commit_status : s.commit.status = s.status := rfl
@[simp] theorem State.commit_changedOut : s.commit.changedOut = s.changedOut := rfl
@[simp] theorem State.commit_repValid : s.commit.repValid = s.repValid := rfl
@[simp] theorem State.commit_report : s.commit.report = s.report := rfl
@[simp] theorem State.commit_gpioCfgReq : s.commit.gpioCfgReq = s.gpioCfgReq := rfl
@[simp] theorem State.commit_atomicWindow : s.commit.atomicWindow = s.atomicWindow := rfl
@[simp] theorem State.commit_pins : s.commit.pins = s.pins := rfl
@[simp] theorem State.commit_inputs : s.commit.inputs = s.inputs := rfl
@[simp] theorem State.commit_trace : s.commit.trace = s.trace := rfl
@[simp] theorem State.commit_freeCount : s.commit.freeCount = s.freeCount := rfl

/-! ### State.freeChangedOut -/

@[simp] theorem State.freeChangedOut_cfg : s.freeChangedOut.cfg = s.cfg := rfl
@[simp] theorem State.freeChangedOut_phase : s.freeChangedOut.phase = s.phase := rfl
@[simp] theorem State.freeChangedOut_ls : s.freeChangedOut.ls = s.ls := rfl
@[simp] theorem State.freeChangedOut_lr : s.freeChangedOut.lr = s.lr := rfl
@[simp] theorem State.freeChangedOut_status : s.freeChangedOut.status = s.status := rfl
@[simp] theorem State.freeChangedOut_changedOut : s.freeChangedOut.changedOut = Config.freeChangedOut s.freeCount := rfl
@[simp] theorem State.freeChangedOut_repValid : s.freeChangedOut.repValid = s.repValid := rfl
@[simp] theorem State.freeChangedOut_report : s.freeChangedOut.report = s.report := rfl
@[simp] theorem State.freeChangedOut_gpioCfgReq : s.freeChangedOut.gpioCfgReq = s.gpioCfgReq := rfl
@[simp] theorem State.freeChangedOut_atomicWindow : s.freeChangedOut.atomicWindow = s.atomicWindow := rfl
@[simp] theorem State.freeChangedOut_pins : s.freeChangedOut.pins = s.pins := rfl
@[simp] theorem State.freeChangedOut_inputs : s.freeChangedOut.inputs = s.inputs := rfl
@[simp] theorem State.freeChangedOut_trace : s.freeChangedOut.trace = s.trace := rfl
@[simp] theorem State.freeChangedOut_freeCount : s.freeChangedOut.freeCount = s.freeCount + 1 := rfl

/-! ### State.succeed -/

@[simp] theorem State.succeed_cfg : s.succeed.cfg = s.cfg := rfl
@[simp] theorem State.succeed_phase : s.succeed.phase = s.phase := rfl
@[simp] theorem State.succeed_ls : s.succeed.ls = s.ls := rfl
@[simp] theorem State.succeed_lr : s.succeed.lr = s.lr := rfl
@[simp] theorem State.succeed_status : s.succeed.status = .success := rfl
@[simp] theorem State.succeed_changedOut : s.succeed.changedOut = Config.freeChangedOut s.freeCount := rfl
@[simp] theorem State.succeed_repValid : s.succeed.repValid = s.repValid := rfl
@[simp] theorem State.succeed_report : s.succeed.report = s.report := rfl
@[simp] theorem State.succeed_gpioCfgReq : s.succeed.gpioCfgReq = s.gpioCfgReq := rfl
@[simp] theorem State.succeed_atomicWindow : s.succeed.atomicWindow = s.atomicWindow := rfl
@[simp] theorem State.succeed_pins : s.succeed.pins = s.pins := rfl
@[simp] theorem State.succeed_inputs : s.succeed.inputs = s.inputs := rfl
@[simp] theorem State.succeed_trace : s.succeed.trace = s.trace := rfl
@[simp] theorem State.succeed_freeCount : s.succeed.freeCount = s.freeCount + 1 := rfl

/-! ### State.succeedWith -/

@[simp] theorem State.succeedWith_cfg (b : Bool) : (s.succeedWith b).cfg = s.cfg := rfl
@[simp] theorem State.succeedWith_phase (b : Bool) : (s.succeedWith b).phase = s.phase := rfl
@[simp] theorem State.succeedWith_ls (b : Bool) : (s.succeedWith b).ls = s.ls := rfl
@[simp] theorem State.succeedWith_lr (b : Bool) : (s.succeedWith b).lr = s.lr := rfl
@[simp] theorem State.succeedWith_status (b : Bool) : (s.succeedWith b).status = .success := rfl
@[simp] theorem State.succeedWith_changedOut (b : Bool) : (s.succeedWith b).changedOut = b := rfl
@[simp] theorem State.succeedWith_repValid (b : Bool) : (s.succeedWith b).repValid = s.repValid := rfl
@[simp] theorem State.succeedWith_report (b : Bool) : (s.succeedWith b).report = s.report := rfl
@[simp] theorem State.succeedWith_gpioCfgReq (b : Bool) : (s.succeedWith b).gpioCfgReq = s.gpioCfgReq := rfl
@[simp] theorem State.succeedWith_atomicWindow (b : Bool) : (s.succeedWith b).atomicWindow = s.atomicWindow := rfl
@[simp] theorem State.succeedWith_pins (b : Bool) : (s.succeedWith b).pins = s.pins := rfl
@[simp] theorem State.succeedWith_inputs (b : Bool) : (s.succeedWith b).inputs = s.inputs := rfl
@[simp] theorem State.succeedWith_trace (b : Bool) : (s.succeedWith b).trace = s.trace := rfl
@[simp] theorem State.succeedWith_freeCount (b : Bool) : (s.succeedWith b).freeCount = s.freeCount := rfl

/-! ### State.raiseNotInitialized -/

@[simp] theorem State.raiseNotInitialized_cfg (op : Instr) : (s.raiseNotInitialized op).cfg = s.cfg := rfl
@[simp] theorem State.raiseNotInitialized_phase (op : Instr) : (s.raiseNotInitialized op).phase = s.phase := rfl
@[simp] theorem State.raiseNotInitialized_ls (op : Instr) : (s.raiseNotInitialized op).ls = s.ls := rfl
@[simp] theorem State.raiseNotInitialized_lr (op : Instr) : (s.raiseNotInitialized op).lr = s.lr := rfl
@[simp] theorem State.raiseNotInitialized_status (op : Instr) : (s.raiseNotInitialized op).status = .notInitialized := rfl
@[simp] theorem State.raiseNotInitialized_changedOut (op : Instr) : (s.raiseNotInitialized op).changedOut = Config.freeChangedOut s.freeCount := rfl
@[simp] theorem State.raiseNotInitialized_repValid (op : Instr) : (s.raiseNotInitialized op).repValid = s.repValid := rfl
@[simp] theorem State.raiseNotInitialized_report (op : Instr) : (s.raiseNotInitialized op).report = s.report := rfl
@[simp] theorem State.raiseNotInitialized_gpioCfgReq (op : Instr) : (s.raiseNotInitialized op).gpioCfgReq = s.gpioCfgReq := rfl
@[simp] theorem State.raiseNotInitialized_atomicWindow (op : Instr) : (s.raiseNotInitialized op).atomicWindow = s.atomicWindow := rfl
@[simp] theorem State.raiseNotInitialized_pins (op : Instr) : (s.raiseNotInitialized op).pins = s.pins := rfl
@[simp] theorem State.raiseNotInitialized_inputs (op : Instr) : (s.raiseNotInitialized op).inputs = s.inputs := rfl
@[simp] theorem State.raiseNotInitialized_trace (op : Instr) : (s.raiseNotInitialized op).trace = s.trace ++ [.raised (.notInitialized op)] := rfl
@[simp] theorem State.raiseNotInitialized_freeCount (op : Instr) : (s.raiseNotInitialized op).freeCount = s.freeCount + 1 := rfl

/-! ### State.reportWrites -/

@[simp] theorem State.reportWrites_cfg (fs : List FieldWrite) : (s.reportWrites fs).cfg = s.cfg := rfl
@[simp] theorem State.reportWrites_phase (fs : List FieldWrite) : (s.reportWrites fs).phase = s.phase := rfl
@[simp] theorem State.reportWrites_ls (fs : List FieldWrite) : (s.reportWrites fs).ls = s.ls := rfl
@[simp] theorem State.reportWrites_lr (fs : List FieldWrite) : (s.reportWrites fs).lr = s.lr := rfl
@[simp] theorem State.reportWrites_status (fs : List FieldWrite) : (s.reportWrites fs).status = s.status := rfl
@[simp] theorem State.reportWrites_changedOut (fs : List FieldWrite) : (s.reportWrites fs).changedOut = s.changedOut := rfl
@[simp] theorem State.reportWrites_repValid (fs : List FieldWrite) : (s.reportWrites fs).repValid = s.repValid := rfl
@[simp] theorem State.reportWrites_report (fs : List FieldWrite) : (s.reportWrites fs).report = fs.foldl writeField s.report := rfl
@[simp] theorem State.reportWrites_gpioCfgReq (fs : List FieldWrite) : (s.reportWrites fs).gpioCfgReq = s.gpioCfgReq := rfl
@[simp] theorem State.reportWrites_atomicWindow (fs : List FieldWrite) : (s.reportWrites fs).atomicWindow = s.atomicWindow := rfl
@[simp] theorem State.reportWrites_pins (fs : List FieldWrite) : (s.reportWrites fs).pins = s.pins := rfl
@[simp] theorem State.reportWrites_inputs (fs : List FieldWrite) : (s.reportWrites fs).inputs = s.inputs := rfl
@[simp] theorem State.reportWrites_trace (fs : List FieldWrite) : (s.reportWrites fs).trace = s.trace ++ fs.map Event.reportWrite := rfl
@[simp] theorem State.reportWrites_freeCount (fs : List FieldWrite) : (s.reportWrites fs).freeCount = s.freeCount := rfl

/-! ### State.writeReport -/

@[simp] theorem State.writeReport_cfg : s.writeReport.cfg = s.cfg := rfl
@[simp] theorem State.writeReport_phase : s.writeReport.phase = s.phase := rfl
@[simp] theorem State.writeReport_ls : s.writeReport.ls = s.ls := rfl
@[simp] theorem State.writeReport_lr : s.writeReport.lr = s.lr := rfl
@[simp] theorem State.writeReport_status : s.writeReport.status = s.status := rfl
@[simp] theorem State.writeReport_changedOut : s.writeReport.changedOut = s.changedOut := rfl
@[simp] theorem State.writeReport_repValid : s.writeReport.repValid = true := rfl
@[simp] theorem State.writeReport_report : s.writeReport.report = ⟨padOf s.cfg.mode, packButtons s.ls, s.ls⟩ := rfl
@[simp] theorem State.writeReport_gpioCfgReq : s.writeReport.gpioCfgReq = s.gpioCfgReq := rfl
@[simp] theorem State.writeReport_atomicWindow : s.writeReport.atomicWindow = s.atomicWindow := rfl
@[simp] theorem State.writeReport_pins : s.writeReport.pins = s.pins := rfl
@[simp] theorem State.writeReport_inputs : s.writeReport.inputs = s.inputs := rfl
@[simp] theorem State.writeReport_trace : s.writeReport.trace = s.trace ++ [.reportWrite (.padType (padOf s.cfg.mode)), .reportWrite (.buttons (packButtons s.ls)), .reportWrite (.rawData s.ls)] := rfl
@[simp] theorem State.writeReport_freeCount : s.writeReport.freeCount = s.freeCount := rfl

/-! ### State.resetInstance -/

@[simp] theorem State.resetInstance_cfg : s.resetInstance.cfg = s.cfg := rfl
@[simp] theorem State.resetInstance_phase : s.resetInstance.phase = .uninitialized := rfl
@[simp] theorem State.resetInstance_ls : s.resetInstance.ls = ⟨0x00#8, 0x00#8⟩ := rfl
@[simp] theorem State.resetInstance_lr : s.resetInstance.lr = ⟨0x00#8, 0x00#8⟩ := rfl
@[simp] theorem State.resetInstance_status : s.resetInstance.status = Config.freeStatus s.freeCount := rfl
@[simp] theorem State.resetInstance_changedOut : s.resetInstance.changedOut = Config.freeChangedOut s.freeCount := rfl
@[simp] theorem State.resetInstance_repValid : s.resetInstance.repValid = false := rfl
@[simp] theorem State.resetInstance_report : s.resetInstance.report = Config.freeReport s.freeCount := rfl
@[simp] theorem State.resetInstance_gpioCfgReq : s.resetInstance.gpioCfgReq = none := rfl
@[simp] theorem State.resetInstance_atomicWindow : s.resetInstance.atomicWindow = false := rfl
@[simp] theorem State.resetInstance_pins : s.resetInstance.pins = s.pins := rfl
@[simp] theorem State.resetInstance_inputs : s.resetInstance.inputs = s.inputs := rfl
@[simp] theorem State.resetInstance_trace : s.resetInstance.trace = s.trace := rfl
@[simp] theorem State.resetInstance_freeCount : s.resetInstance.freeCount = s.freeCount + 1 := rfl

/-! ### State.taking -/

@[simp] theorem State.taking_cfg (r : List HostInput) (p : PinPair) : (s.taking r p).cfg = s.cfg := rfl
@[simp] theorem State.taking_phase (r : List HostInput) (p : PinPair) : (s.taking r p).phase = s.phase := rfl
@[simp] theorem State.taking_ls (r : List HostInput) (p : PinPair) : (s.taking r p).ls = s.ls := rfl
@[simp] theorem State.taking_lr (r : List HostInput) (p : PinPair) : (s.taking r p).lr = s.lr := rfl
@[simp] theorem State.taking_status (r : List HostInput) (p : PinPair) : (s.taking r p).status = s.status := rfl
@[simp] theorem State.taking_changedOut (r : List HostInput) (p : PinPair) : (s.taking r p).changedOut = s.changedOut := rfl
@[simp] theorem State.taking_repValid (r : List HostInput) (p : PinPair) : (s.taking r p).repValid = s.repValid := rfl
@[simp] theorem State.taking_report (r : List HostInput) (p : PinPair) : (s.taking r p).report = s.report := rfl
@[simp] theorem State.taking_gpioCfgReq (r : List HostInput) (p : PinPair) : (s.taking r p).gpioCfgReq = s.gpioCfgReq := rfl
@[simp] theorem State.taking_atomicWindow (r : List HostInput) (p : PinPair) : (s.taking r p).atomicWindow = s.atomicWindow := rfl
@[simp] theorem State.taking_pins (r : List HostInput) (p : PinPair) : (s.taking r p).pins = p := rfl
@[simp] theorem State.taking_inputs (r : List HostInput) (p : PinPair) : (s.taking r p).inputs = r := rfl
@[simp] theorem State.taking_trace (r : List HostInput) (p : PinPair) : (s.taking r p).trace = s.trace := rfl
@[simp] theorem State.taking_freeCount (r : List HostInput) (p : PinPair) : (s.taking r p).freeCount = s.freeCount := rfl

/-! ### State.resetOf -/

@[simp] theorem State.resetOf_cfg (c : Config) : (State.resetOf c).cfg = c := rfl
@[simp] theorem State.resetOf_phase (c : Config) : (State.resetOf c).phase = .uninitialized := rfl
@[simp] theorem State.resetOf_ls (c : Config) : (State.resetOf c).ls = ⟨0x00#8, 0x00#8⟩ := rfl
@[simp] theorem State.resetOf_lr (c : Config) : (State.resetOf c).lr = ⟨0x00#8, 0x00#8⟩ := rfl
@[simp] theorem State.resetOf_repValid (c : Config) : (State.resetOf c).repValid = false := rfl
@[simp] theorem State.resetOf_gpioCfgReq (c : Config) : (State.resetOf c).gpioCfgReq = none := rfl
@[simp] theorem State.resetOf_atomicWindow (c : Config) : (State.resetOf c).atomicWindow = false := rfl
@[simp] theorem State.resetOf_inputs (c : Config) : (State.resetOf c).inputs = [] := rfl
@[simp] theorem State.resetOf_trace (c : Config) : (State.resetOf c).trace = [] := rfl

end Sys2Proof.Machine
end

