-- ==== Sys2Proof/Laws/Ops.lean ====
section
/-! SUPPORT. What each shared operation can answer, said once: launch, the phase check, exec, step. -/

namespace Sys2Proof.Machine

/-- An operation of an instance answers a next state exactly when the configuration is admissible. -/
theorem State.launch_next_iff (s r t : State) : s.launch r = .next t ↔ s.cfg.admissible = true ∧ r = t := by
  unfold State.launch
  split
  · rename_i h; simp [h]
  · rename_i h; simp [h]

theorem State.launch_of_admissible {s : State} (h : s.cfg.admissible = true) (r : State) : s.launch r = .next r :=
  (s.launch_next_iff r r).2 ⟨h, rfl⟩

theorem State.launch_of_not_admissible {s : State} (h : s.cfg.admissible = false) (r : State) :
    s.launch r = .refused .inadmissibleConfiguration := by
  simp [State.launch, h]

/-- No operation ends in a fault (60_exceptions.md R126, R129). -/
theorem State.launch_ne_fault (s r : State) (f : Fault) : s.launch r ≠ .fault f := by
  unfold State.launch; split <;> simp

theorem State.requireReady_of_ready {s : State} (h : s.phase = .ready) (op : Instr) (b : State) :
    s.requireReady op b = b := by
  simp [State.requireReady, h]

theorem State.requireReady_of_uninitialized {s : State} (h : s.phase = .uninitialized) (op : Instr) (b : State) :
    s.requireReady op b = s.raiseNotInitialized op := by
  simp [State.requireReady, h]

/-- Everything an operation can do when it answers a next state (10_state.md R32). -/
theorem exec_next_cases {i : Instr} {s t : State} (h : exec i s = .next t) :
    s.cfg.admissible = true ∧
      ((i = .init ∧ t = s.begin.gpioConfigure.sampleIntoLs.enterReady.succeed)
        ∨ (i = .update ∧ s.phase = .ready ∧ t = s.begin.sampleIntoLs.succeed)
        ∨ (i = .changed ∧ s.phase = .ready ∧ t = s.begin.succeedWith (changedFn s.ls s.lr))
        ∨ (i = .getreport true ∧ s.phase = .ready ∧ t = s.begin.writeReport.commit.succeed)
        ∨ (i = .getreport false ∧ s.phase = .ready ∧ t = s.begin.commit.succeed)
        ∨ (i ≠ .init ∧ s.phase = .uninitialized ∧ t = s.begin.raiseNotInitialized i)) := by
  have hp : s.begin.phase = s.phase := rfl
  cases i with
  | init =>
    obtain ⟨ha, rfl⟩ := (s.launch_next_iff _ _).1 h
    exact ⟨ha, .inl ⟨rfl, rfl⟩⟩
  | update =>
    obtain ⟨ha, rfl⟩ := (s.launch_next_iff _ _).1 h
    cases q : s.phase <;> simp [State.requireReady, q, ha]
  | changed =>
    obtain ⟨ha, rfl⟩ := (s.launch_next_iff _ _).1 h
    cases q : s.phase <;> simp [State.requireReady, q, ha]
  | getreport d =>
    obtain ⟨ha, rfl⟩ := (s.launch_next_iff _ _).1 h
    cases d <;> cases q : s.phase <;> simp [State.requireReady, q, ha]

/-- An operation of an admissible instance answers a next state, and the same one `exec_next_cases` describes. -/
theorem exec_of_admissible (i : Instr) {s : State} (h : s.cfg.admissible = true) : ∃ t, exec i s = .next t := by
  cases i with
  | init => exact ⟨_, State.launch_of_admissible h _⟩
  | update => exact ⟨_, State.launch_of_admissible h _⟩
  | changed => exact ⟨_, State.launch_of_admissible h _⟩
  | getreport d => exact ⟨_, State.launch_of_admissible h _⟩

@[simp] theorem State.begin_taking (s : State) (r : List HostInput) (p : PinPair) :
    (s.taking r p).begin = s.begin.taking r p := rfl

theorem step_of_nil {s : State} (h : s.inputs = []) : step s = .next s := by
  simp [step, h]

theorem step_of_reset {s : State} {r : List HostInput} (h : s.inputs = .reset :: r) :
    step s = .next (s.taking r s.pins).resetInstance := by
  simp [step, h]

/-- Everything a step can do when it answers a next state. -/
theorem step_next_cases {s t : State} (h : step s = .next t) :
    (s.inputs = [] ∧ t = s)
      ∨ (∃ r, s.inputs = .reset :: r ∧ t = (s.taking r s.pins).resetInstance)
      ∨ (∃ w p r, s.inputs = .issue w p :: r ∧ exec (decode w) (s.taking r p) = .next t) := by
  unfold step at h
  split at h
  · rename_i h0; left; exact ⟨h0, by cases h; rfl⟩
  · rename_i r h0; right; left; exact ⟨r, h0, by cases h; rfl⟩
  · rename_i w p r h0; right; right; exact ⟨w, p, r, h0, h⟩
  · cases h

end Sys2Proof.Machine
end

