-- ==== Sys2Proof/Laws/Exec.lean ====
section
/-! SUPPORT. Each operation's next state as a chain of named operations, by phase; and the induction over a run, packaged once. -/

namespace Sys2Proof.Machine

theorem exec_init {s : State} (ha : s.cfg.admissible = true) :
    exec .init s = .next s.begin.gpioConfigure.sampleIntoLs.enterReady.succeed :=
  State.launch_of_admissible ha _

theorem exec_update_ready {s : State} (ha : s.cfg.admissible = true) (hp : s.phase = .ready) :
    exec .update s = .next s.begin.sampleIntoLs.succeed := by
  change execUpdate s = _
  unfold execUpdate
  rw [State.launch_of_admissible ha, State.requireReady_of_ready (by simpa using hp)]

theorem exec_changed_ready {s : State} (ha : s.cfg.admissible = true) (hp : s.phase = .ready) :
    exec .changed s = .next (s.begin.succeedWith (changedFn s.ls s.lr)) := by
  change execChanged s = _
  unfold execChanged
  rw [State.launch_of_admissible ha, State.requireReady_of_ready (by simpa using hp)]

theorem exec_getreport_ready {s : State} (ha : s.cfg.admissible = true) (hp : s.phase = .ready) (d : Bool) :
    exec (.getreport d) s = .next (if d then s.begin.writeReport else s.begin).commit.succeed := by
  change execGetreport d s = _
  unfold execGetreport
  rw [State.launch_of_admissible ha, State.requireReady_of_ready (by simpa using hp)]

theorem exec_uninitialized {i : Instr} {s : State} (ha : s.cfg.admissible = true) (hp : s.phase = .uninitialized)
    (hi : i ≠ .init) : exec i s = .next (s.begin.raiseNotInitialized i) := by
  obtain ⟨t, ht⟩ := exec_of_admissible i ha
  obtain ⟨-, h⟩ := exec_next_cases ht
  rw [ht]
  simp_all

theorem run_succ {s t : State} (k : Nat) (h : step s = .next t) : core.run (k + 1) s = core.run k t := by
  simp only [Host.Core.run, show core.step = step from rfl]
  rw [h]

/-- What every step of a host that issues inputs of kind `I` keeps, holds after any number of steps, all of which
answer a next state. -/
theorem run_induct (P : State → Prop) (I : HostInput → Prop)
    (hstep : ∀ s x r, P s → s.inputs = x :: r → I x → ∃ t, step s = .next t ∧ P t ∧ t.inputs = r) :
    ∀ k s, P s → (∀ x ∈ s.inputs, I x) → ∃ t : State, core.run k s = .next t ∧ P t := by
  intro k
  induction k with
  | zero => intro s h _; exact ⟨s, rfl, h⟩
  | succ k ih =>
    intro s h hI
    cases hi : s.inputs with
    | nil =>
      obtain ⟨t, ht, hp⟩ := ih s h hI
      exact ⟨t, (run_succ k (step_of_nil hi)).trans ht, hp⟩
    | cons x r =>
      obtain ⟨u, hu, hpu, hr⟩ := hstep s x r h hi (hI x (by simp [hi]))
      obtain ⟨t, ht, hp⟩ := ih u hpu (fun y hy => hI y (by rw [hi]; rw [hr] at hy; simp [hy]))
      exact ⟨t, (run_succ k hu).trans ht, hp⟩

/-- A run of `j + k` steps is `j` steps and then `k`. -/
theorem run_add {s t : State} {j : Nat} (k : Nat) (h : core.run j s = .next t) :
    core.run (j + k) s = core.run k t := by
  induction j generalizing s with
  | zero => cases h; rw [Nat.zero_add]
  | succ j ih =>
    simp only [Host.Core.run, show core.step = step from rfl] at h
    cases hs : step s with
    | next u =>
      rw [show j + 1 + k = j + k + 1 by omega, run_succ (j + k) hs]
      exact ih (by simpa only [hs] using h)
    | fault r => simp [hs] at h
    | refused r => simp [hs] at h

/-- What every step of inputs of kind `I` keeps, holds once such a stretch of inputs has been consumed, whatever comes
after it. -/
theorem run_through (P : State → Prop) (I : HostInput → Prop)
    (hstep : ∀ s x r, P s → s.inputs = x :: r → I x → ∃ t, step s = .next t ∧ P t ∧ t.inputs = r) :
    ∀ (l rest : List HostInput) (s : State), P s → s.inputs = l ++ rest → (∀ x ∈ l, I x) →
      ∃ t : State, core.run l.length s = .next t ∧ P t ∧ t.inputs = rest := by
  intro l
  induction l with
  | nil => intro rest s h hi _; exact ⟨s, rfl, h, hi⟩
  | cons x l ih =>
    intro rest s h hi hI
    obtain ⟨u, hu, hpu, hr⟩ := hstep s x (l ++ rest) h hi (hI x (by simp))
    obtain ⟨t, ht, hp, hq⟩ := ih rest u hpu hr (fun y hy => hI y (by simp [hy]))
    exact ⟨t, (run_succ l.length hu).trans ht, hp, hq⟩

/-- A step that issues a command is its operation at the state with the input taken. -/
theorem step_of_issue {s : State} {w : CommandWord} {p : PinPair} {r : List HostInput}
    (h : s.inputs = .issue w p :: r) : step s = exec (decode w) (s.taking r p) := by
  unfold step; rw [h]

end Sys2Proof.Machine
end

