-- ==== Sys2Proof/Laws/PerInstr.lean ====
section
/-! SUPPORT. Per-instruction families: a statement about an operation as syntax, one lemma per constructor. -/

namespace Sys2Proof.Laws

/-- The canonical word has bit 2 set for GETREPORT with a report record alone, and its low two bits are the table's
match value (30_encoding.md R64). -/
def CanonicalWord.Statement (i : Instr) : Prop :=
  ((encode i).getLsbD 2 = true ↔ i = .getreport true)
    ∧ opField (encode i) = match i with
      | .init => 0b00#2
      | .update => 0b01#2
      | .changed => 0b10#2
      | .getreport _ => 0b11#2

theorem CanonicalWord.init : CanonicalWord.Statement .init := by
  constructor <;> decide

theorem CanonicalWord.update : CanonicalWord.Statement .update := by
  constructor <;> decide

theorem CanonicalWord.changed : CanonicalWord.Statement .changed := by
  constructor <;> decide

theorem CanonicalWord.getreport (d : Bool) : CanonicalWord.Statement (.getreport d) := by
  cases d <;> constructor <;> decide

end Sys2Proof.Laws
end

