-- ==== Sys2Proof/Laws/Safety.lean ====
section
/-! SUPPORT. The small lemmas of the terms claims use: how reads and faults of a launch record grow, and agreement outside the free values. -/

namespace Sys2Proof.Machine

@[simp] theorem readsOf_append (a b : List Event) : readsOf (a ++ b) = readsOf a ++ readsOf b := by
  simp [readsOf]

@[simp] theorem readsOf_nil : readsOf [] = [] := rfl
@[simp] theorem readsOf_pinReadPair (p : PinPair) (l : List Event) :
    readsOf (.pinReadPair p :: l) = p :: readsOf l := rfl
@[simp] theorem readsOf_gpioConfigure (m : Mode) (l : List Event) : readsOf (.gpioConfigure m :: l) = readsOf l := rfl
@[simp] theorem readsOf_reportWrite (f : FieldWrite) (l : List Event) :
    readsOf (.reportWrite f :: l) = readsOf l := rfl
@[simp] theorem readsOf_raised (f : Fault) (l : List Event) : readsOf (.raised f :: l) = readsOf l := rfl

@[simp] theorem faultsOf_append (a b : List Event) : faultsOf (a ++ b) = faultsOf a ++ faultsOf b := by
  simp [faultsOf]

@[simp] theorem faultsOf_nil : faultsOf [] = [] := rfl
@[simp] theorem faultsOf_raised (f : Fault) (l : List Event) : faultsOf (.raised f :: l) = f :: faultsOf l := rfl
@[simp] theorem faultsOf_pinReadPair (p : PinPair) (l : List Event) :
    faultsOf (.pinReadPair p :: l) = faultsOf l := rfl
@[simp] theorem faultsOf_gpioConfigure (m : Mode) (l : List Event) :
    faultsOf (.gpioConfigure m :: l) = faultsOf l := rfl
@[simp] theorem faultsOf_reportWrite (f : FieldWrite) (l : List Event) :
    faultsOf (.reportWrite f :: l) = faultsOf l := rfl

/-- Equal states agree; the converse is not claimed of the free values. -/
theorem State.agreesOutsideFree_refl (s : State) : s.agreesOutsideFree s := by
  simp [State.agreesOutsideFree]

end Sys2Proof.Machine
end

