-- ==== Sys2Proof/Machine/Listing.lean ====
section
/-! DEFINITION. The text of a test program's line (30_encoding.md R71): an operation in upper case, with the pin levels of a sampling operation as an annotation. -/

namespace Sys2Proof.Machine

/-- One hexadecimal digit. -/
def hexDigit (d : BitVec 4) : Char :=
  if d.toNat < 10 then Char.ofNat (48 + d.toNat) else Char.ofNat (55 + d.toNat)

/-- A byte as `0x` and two digits. -/
def hexByte (b : Byte) : String :=
  "0x" ++ String.ofList [hexDigit (b.extractLsb' 4 4), hexDigit (b.extractLsb' 0 4)]

/-- The annotation `pins0=0x.. pins1=0x..`. -/
def pinsText (p : PinPair) : String :=
  " pins0=" ++ hexByte p.pins0 ++ " pins1=" ++ hexByte p.pins1

/-- The line that stands for an operation issued while these levels stand on the pins. -/
def lineText (i : Instr) (p : PinPair) : String :=
  match i with
  | .init => i.text ++ pinsText p
  | .update => i.text ++ pinsText p
  | .changed => i.text
  | .getreport _ => i.text

end Sys2Proof.Machine
end

