-- ==== Sys2Proof/Tests/Slice0.lean ====
section
/-! SUPPORT. Tests: the refusals of the well-formedness check, the encodings, vectors of spec/95_test_vectors.md, and a witness for the hypotheses of each obligation. Expected values come from the spec. -/

namespace Sys2Proof.Tests

open Sys2Proof.Machine

/-! ### Configurations -/

/-- 95: the default configurations, `HOME_SRC = 4`. -/
def nes : Config := defaultConfig .nes8Button 4
def snes : Config := defaultConfig .snes12ButtonHome 4
/-- 95, 2.3 -/
def nesMirrored : Config := { nes with src0Nes := #v[7, 6, 5, 4, 3, 2, 1, 0], homeSrc := 0 }
def snesHigh : Config := { snes with src1 := #v[4, 5, 6, 7], homeSrc := 3 }

theorem test_admissible :
    nes.admissible = true ∧ snes.admissible = true ∧ nesMirrored.admissible = true ∧ snesHigh.admissible = true := by
  decide

/-- R95 (a): two buttons on one line. -/
theorem test_refuses_a : Config.admissible { nes with src0Nes := #v[7, 6, 0, 0, 2, 3, 4, 5] } = false := by decide
/-- R95 (b): a SNES table other than the identity. -/
theorem test_refuses_b : Config.admissible { snes with src0Snes := #v[7, 6, 0, 1, 2, 3, 4, 5] } = false := by decide
/-- R95 (c): a NES table without the A/B correction. -/
theorem test_refuses_c : Config.admissible { nes with src0Nes := #v[0, 1, 2, 3, 4, 5, 6, 7] } = false := by decide
/-- R95 (d): a line of the extra bus used twice, once among the four and once with Home. -/
theorem test_refuses_d : Config.admissible { snes with src1 := #v[0, 1, 1, 3] } = false
    ∧ Config.admissible { snes with homeSrc := 3 } = false := by decide
/-- R95 (e): Home on a line that does not exist. -/
theorem test_refuses_e : Config.admissible { nes with homeSrc := 8 } = false := by decide

/-! ### Encodings (30_encoding.md R64, R66) -/

theorem test_decode_init : decode 0b000#3 = .init ∧ decode 0b100#3 = .init := by decide
theorem test_decode_update : decode 0b001#3 = .update ∧ decode 0b101#3 = .update := by decide
theorem test_decode_changed : decode 0b010#3 = .changed ∧ decode 0b110#3 = .changed := by decide
theorem test_decode_getreport : decode 0b011#3 = .getreport false ∧ decode 0b111#3 = .getreport true := by decide
theorem test_decode_table : decodeTableWord 8 0b111 = some (.getreport true) ∧ decodeTableWord 8 0b1000 = none := by
  decide
/-- R71 -/
theorem test_text : lineText .update ⟨0x7F#8, 0xEF#8⟩ = "UPDATE pins0=0x7F pins1=0xEF"
    ∧ lineText (.getreport false) ⟨0#8, 0#8⟩ = "GETREPORT null" := by decide

/-! ### Datapath vectors (95, sections 2 to 5) -/

theorem test_sample_nes : sample nes ⟨0x3C#8, 0xEA#8⟩ = ⟨0x0F#8, 0x10#8⟩
    ∧ sample nes ⟨0x0F#8, 0xFF#8⟩ = ⟨0x83#8, 0x00#8⟩ ∧ sample nes ⟨0x00#8, 0x00#8⟩ = ⟨0x9F#8, 0x10#8⟩ := by decide
theorem test_sample_snes : sample snes ⟨0x3C#8, 0xEA#8⟩ = ⟨0x83#8, 0x15#8⟩
    ∧ sample snes ⟨0xF3#8, 0xFF#8⟩ = ⟨0x0C#8, 0x00#8⟩ ∧ sample snes ⟨0xFF#8, 0x00#8⟩ = ⟨0x00#8, 0x1F#8⟩ := by decide
theorem test_sample_other_tables : sample nesMirrored ⟨0xFC#8, 0xFE#8⟩ = ⟨0x80#8, 0x10#8⟩
    ∧ sample snesHigh ⟨0x3C#8, 0xEA#8⟩ = ⟨0x83#8, 0x01#8⟩ := by decide
theorem test_remap : remap nes 0x40#8 0x1F#8 = ⟨0x02#8, 0x10#8⟩ ∧ remap snes 0x40#8 0xE0#8 = ⟨0x40#8, 0x00#8⟩ := by
  decide
theorem test_changed_fn : changedFn ⟨0x00#8, 0x80#8⟩ ⟨0x00#8, 0x00#8⟩ = true
    ∧ changedFn ⟨0x12#8, 0x34#8⟩ ⟨0x34#8, 0x12#8⟩ = true ∧ changedFn ⟨0x83#8, 0x15#8⟩ ⟨0x83#8, 0x15#8⟩ = false := by
  decide

/-! ### Operations, single steps (95, section 6) -/

/-- A state of the row's form. -/
def at' (c : Config) (phase : Phase) (ls lr : PinSnapshot) (pins : PinPair) : State :=
  { State.resetOf c with phase := phase, ls := ls, lr := lr, pins := pins }

/-- A field of the next state, if there is one. -/
def after {α : Type} (o : Host.Outcome State Fault Refusal) (f : State → α) : Option α :=
  match o with
  | .next t => some (f t)
  | .fault _ => none
  | .refused _ => none

/-- Row 2 -/
theorem test_init : after (exec .init (at' snes .uninitialized ⟨0#8, 0#8⟩ ⟨0#8, 0#8⟩ ⟨0xFE#8, 0xEF#8⟩))
    (fun t => (t.phase, t.ls, t.lr, t.status)) = some (.ready, ⟨0x01#8, 0x10#8⟩, ⟨0#8, 0#8⟩, .success) := by decide
/-- Row 14 -/
theorem test_init_again : after (exec .init (at' snes .ready ⟨1#8, 0#8⟩ ⟨1#8, 0#8⟩ ⟨0xFF#8, 0xFF#8⟩))
    (fun t => (t.phase, t.ls, t.lr)) = some (.ready, ⟨0#8, 0#8⟩, ⟨1#8, 0#8⟩) := by decide
/-- Row 4 -/
theorem test_update : after (exec .update (at' snes .ready ⟨0#8, 0#8⟩ ⟨0x55#8, 0x0A#8⟩ ⟨0x3F#8, 0xFF#8⟩))
    (fun t => (t.ls, t.lr)) = some (⟨0x80#8, 0#8⟩, ⟨0x55#8, 0x0A#8⟩) := by decide
/-- Row 10 -/
theorem test_update_before_init : after (exec .update (at' snes .uninitialized ⟨0#8, 0#8⟩ ⟨0#8, 0#8⟩ ⟨0#8, 0#8⟩))
    (fun t => (t.status, t.phase, t.ls)) = some (.notInitialized, .uninitialized, ⟨0#8, 0#8⟩) := by decide
/-- Row 5 -/
theorem test_changed : after (exec .changed (at' snes .ready ⟨0x80#8, 0#8⟩ ⟨0x55#8, 0x0A#8⟩ ⟨0#8, 0#8⟩))
    (fun t => (t.changedOut, t.ls, t.lr)) = some (true, ⟨0x80#8, 0#8⟩, ⟨0x55#8, 0x0A#8⟩) := by decide
/-- Row 6 -/
theorem test_changed_equal : after (exec .changed (at' snes .ready ⟨0x80#8, 0#8⟩ ⟨0x80#8, 0#8⟩ ⟨0#8, 0#8⟩))
    (fun t => t.changedOut) = some false := by decide
/-- Row 7 -/
theorem test_getreport : after (exec (.getreport true) (at' snes .ready ⟨0x83#8, 0x15#8⟩ ⟨0#8, 0#8⟩ ⟨0#8, 0#8⟩))
    (fun t => (t.report, t.repValid, t.lr))
      = some (⟨.snes, 0x1583#16, ⟨0x83#8, 0x15#8⟩⟩, true, ⟨0x83#8, 0x15#8⟩) := by decide
/-- Row 8 -/
theorem test_getreport_null : after (exec (.getreport false) (at' snes .ready ⟨0x83#8, 0x15#8⟩ ⟨0#8, 0#8⟩ ⟨0#8, 0#8⟩))
    (fun t => (t.repValid, t.lr, t.trace)) = some (false, ⟨0x83#8, 0x15#8⟩, []) := by decide

/-! ### Ports (30_encoding.md R59, R68; D5) -/

theorem test_port_codes : statusCode .success = 0 ∧ statusCode .notInitialized = 1 ∧ padTypeCode .nes = 0
    ∧ padTypeCode .snes = 1 ∧ modeCode .nes8Button = 0 ∧ modeCode .snes12ButtonHome = 1
    ∧ phaseCode .uninitialized = 0 ∧ phaseCode .ready = 1 := by decide

/-! ### Witnesses: concrete states that meet the hypotheses of the obligations -/

/-- A Ready SNES instance with something sampled and something else reported. -/
def ready : State := at' snes .ready ⟨0x83#8, 0x15#8⟩ ⟨0x01#8, 0x00#8⟩ ⟨0xFE#8, 0xFF#8⟩
/-- A Ready NES instance. -/
def readyNes : State := at' nes .ready ⟨0x0F#8, 0x10#8⟩ ⟨0x00#8, 0x00#8⟩ ⟨0xFF#8, 0xFF#8⟩
/-- A new instance with levels on the pins. -/
def fresh : State := at' snes .uninitialized ⟨0#8, 0#8⟩ ⟨0#8, 0#8⟩ ⟨0xFF#8, 0xFF#8⟩
/-- A state with these inputs to come. -/
def withInputs (s : State) (l : List HostInput) : State := { s with inputs := l }
def high : PinPair := ⟨0xFF#8, 0xFF#8⟩

theorem witness_StepRunsDecodedCommand :
    (withInputs fresh [.issue 0b100#3 high]).inputs = .issue 0b100#3 high :: []
      ∧ decodeTableWord 8 7 = some (.getreport true) := by decide
theorem witness_DecodeEncodeRoundTrip : (Instr.getreport true).wellFormed = true := by decide
theorem witness_SerialStepsNeverStop_issue : (withInputs ready [.issue 0b001#3 high]).cfg.admissible = true
    ∧ ∀ a b rest, (withInputs ready [.issue 0b001#3 high]).inputs ≠ .overlapped a b :: rest :=
  ⟨by decide, by intro a b rest h; cases h⟩
theorem witness_SerialStepsNeverStop_end : ready.cfg.admissible = true ∧ ∀ a b rest, ready.inputs ≠ .overlapped a b :: rest :=
  ⟨by decide, by intro a b rest h; cases h⟩
theorem witness_OverlapIsRefused :
    (withInputs ready [.overlapped 0b001#3 0b010#3]).inputs = .overlapped 0b001#3 0b010#3 :: [] := rfl
theorem witness_InadmissibleIsRefused : (State.resetOf { snes with homeSrc := 3 }).cfg.admissible = false
    ∧ (State.resetOf snes).cfg.admissible = true := by decide
theorem witness_PhaseTransitionTable : ready.cfg.admissible = true ∧ ready.phase = .ready
    ∧ fresh.cfg.admissible = true ∧ fresh.phase = .uninitialized := by decide
theorem witness_PhaseTransitionTable_reset : (withInputs ready [.reset]).phase = .ready
    ∧ after (step (withInputs ready [.reset])) (fun t => t.phase) = some .uninitialized := by decide
theorem witness_InitEffect : fresh.cfg.admissible = true ∧ fresh.pins = ⟨0xFF#8, 0xFF#8⟩
    ∧ ready.cfg.admissible = true := by decide
theorem witness_UpdateEffect : ready.cfg.admissible = true ∧ ready.phase = .ready
    ∧ ready.cfg.mode = .snes12ButtonHome ∧ ready.pins = ⟨0xFE#8, 0xFF#8⟩
    ∧ fresh.cfg.admissible = true ∧ fresh.phase = .uninitialized := by decide
theorem witness_ChangedEffect : ready.cfg.admissible = true ∧ ready.phase = .ready ∧ ready.ls ≠ ready.lr := by decide
theorem witness_GetReportFields : ready.cfg.admissible = true ∧ ready.phase = .ready
    ∧ readyNes.cfg.admissible = true ∧ readyNes.phase = .ready := by decide
theorem witness_CommitClearsPendingChange :
    let again : PinPair := ⟨0x3C#8, 0xEA#8⟩
    ready.cfg.admissible = true ∧ ready.phase = .ready ∧ decode 0b011#3 = .getreport false
    ∧ (withInputs ready [.issue 0b011#3 high, .issue 0b010#3 high, .issue 0b111#3 high, .issue 0b001#3 again,
        .issue 0b000#3 again]).inputs
      = .issue 0b011#3 high :: [.issue 0b010#3 high, .issue 0b111#3 high, .issue 0b001#3 again, .issue 0b000#3 again]
    ∧ decode 0b010#3 = .changed ∧ decode 0b111#3 = .getreport true
    ∧ decode 0b001#3 = .update ∧ decode 0b000#3 = .init ∧ sample ready.cfg again = ready.ls := by decide
theorem witness_CommitClearsPendingChange_other : Instr.update ≠ .getreport true ∧ Instr.update ≠ .getreport false
    ∧ after (exec .update ready) (fun t => t.lr) = some ready.lr := by decide
theorem witness_NotInitializedWritesNothing : fresh.cfg.admissible = true ∧ fresh.phase = .uninitialized
    ∧ Instr.getreport true ≠ .init ∧ Instr.update ≠ .init ∧ Instr.changed ≠ .init := by decide
theorem witness_SecondInitIsUpdateAfterConfigure : ready.cfg.admissible = true ∧ ready.phase = .ready := by decide
theorem witness_RepeatedReportsAreEqual : readyNes.cfg.admissible = true ∧ readyNes.phase = .ready
    ∧ (withInputs readyNes [.issue 0b111#3 high, .issue 0b010#3 high, .issue 0b011#3 high, .issue 0b111#3 high]).inputs
      = .issue 0b111#3 high :: ([.issue 0b010#3 high, .issue 0b011#3 high] ++ .issue 0b111#3 high :: [])
    ∧ decode 0b111#3 = .getreport true ∧ decode 0b010#3 = .changed ∧ decode 0b011#3 = .getreport false := by decide
theorem witness_RepeatedReportsAreEqual_nothing_between :
    (withInputs readyNes [.issue 0b111#3 high, .issue 0b111#3 high]).inputs
      = .issue 0b111#3 high :: ([] ++ .issue 0b111#3 high :: []) := by decide
theorem witness_OnePairedReadPerSample : ready.cfg.admissible = true ∧ ready.phase = .ready := by decide
theorem witness_PulsePortsDuringOperation : ready.cfg.admissible = true ∧ fresh.cfg.admissible = true := by decide
theorem witness_LastReportedWrittenByGetReportAlone : ready.cfg.admissible = true ∧ ready.phase = .ready
    ∧ after (exec .changed ready) (fun t => t.lr) = some ready.lr := by decide
theorem witness_StepWritersOfEachRegister :
    after (step (withInputs ready [.issue 0b101#3 high])) (fun t => decide (t.ls = ready.ls)) = some false
    ∧ after (step (withInputs ready [.issue 0b011#3 high])) (fun t => decide (t.lr = ready.lr)) = some false
    ∧ after (step (withInputs fresh [.issue 0b000#3 high])) (fun t => decide (t.phase = fresh.phase)) = some false := by
  decide
theorem witness_ReportingIgnoresPins : fresh.cfg.admissible = true ∧ ready.cfg.admissible = true := by decide
theorem witness_RemapPermutesPrimaryBus : nes.admissible = true ∧ nes.mode = .nes8Button
    ∧ snes.admissible = true ∧ snes.mode = .snes12ButtonHome := by decide
theorem witness_NesByteOneIsHomeAlone : nesMirrored.admissible = true ∧ nesMirrored.mode = .nes8Button := by decide
theorem witness_SnesByteOneLayout : snesHigh.admissible = true ∧ snesHigh.mode = .snes12ButtonHome := by decide
theorem witness_SampleInCanonicalLayout : snesHigh.admissible = true ∧ nesMirrored.admissible = true := by decide
theorem witness_ResolveThenRemapEqualsRemapThenResolve : snesHigh.admissible = true ∧ nesMirrored.admissible = true := by
  decide
/-- Line 0 of the extra bus differs: unwired under `snesHigh`; every line but 0 differs under `nesMirrored`. -/
theorem witness_UnwiredLinesHaveNoEffect :
    (snesHigh.admissible = true ∧ (0xFF#8).getLsbD snesHigh.homeSrc = (0xFE#8).getLsbD snesHigh.homeSrc
      ∧ ∀ k : Fin 4, (0xFF#8).getLsbD (snesHigh.src1[k]).val = (0xFE#8).getLsbD (snesHigh.src1[k]).val)
    ∧ nesMirrored.admissible = true
      ∧ (0xFF#8).getLsbD nesMirrored.homeSrc = (0x01#8).getLsbD nesMirrored.homeSrc
      ∧ nesMirrored.mode ≠ .snes12ButtonHome := by decide
theorem witness_ResetInputEffect : (withInputs ready [.reset]).inputs = .reset :: [] := rfl
theorem witness_AllReleasedBaseline : snesHigh.admissible = true ∧ (0xF8#8).getLsbD snesHigh.homeSrc = true
    ∧ (∀ k : Fin 4, (0xF8#8).getLsbD (snesHigh.src1[k]).val = true)
    ∧ nes.admissible = true ∧ (0x10#8).getLsbD nes.homeSrc = true ∧ nes.mode ≠ .snes12ButtonHome := by decide
/-- Opposite directions held (lines 4 and 5 of a NES instance), Home alone, and nothing but an unwired line. -/
theorem witness_FirstChangedAfterReset : nes.admissible = true ∧ snesHigh.admissible = true
    ∧ (∃ k : Fin 8, (0xCF#8).getLsbD (nes.src0[k]).val = false) ∧ (0xEF#8).getLsbD nes.homeSrc = false
    ∧ ((∀ k : Fin 8, (0xFF#8).getLsbD (snesHigh.src0[k]).val = true) ∧ (0xF8#8).getLsbD snesHigh.homeSrc = true
      ∧ ∀ k : Fin 4, (0xF8#8).getLsbD (snesHigh.src1[k]).val = true)
    ∧ ∃ k : Fin 4, (0xEF#8).getLsbD (snesHigh.src1[k]).val = false := by decide
theorem witness_RepeatedUpdateIsIdempotent : ready.cfg.admissible = true ∧ ready.phase = .ready
    ∧ (at' snes .ready ⟨0x01#8, 0#8⟩ ⟨0#8, 0#8⟩ ⟨0xFE#8, 0xFF#8⟩).ls = sample snes ⟨0xFE#8, 0xFF#8⟩ := by decide
theorem witness_StepKeepsSnapshotsLawful : ready.lawful ∧ readyNes.lawful
    ∧ after (step (withInputs ready [.issue 0b001#3 ⟨0x00#8, 0x00#8⟩])) (fun t => t.ls) = some ⟨0x9F#8, 0x1F#8⟩ := by
  unfold State.lawful snapshotLawful; decide
theorem witness_StepKeepsLatestSample :
    let s : State := { ready with ls := sample snes high, trace := [.pinReadPair high], inputs := [.issue 0b011#3 high] }
    s.holdsLatestSample ∧ after (step s) (fun t => t.phase) = some .ready :=
  ⟨fun _ => ⟨high, by decide, rfl⟩, by decide⟩
theorem witness_StepKeepsReportsConsistent :
    let s : State := withInputs ready [.issue 0b111#3 high]
    s.reportsAgree ∧ after (step s) (fun t => t.repValid) = some true :=
  ⟨⟨fun _ h => absurd h List.not_mem_nil, fun h => nomatch h⟩, by decide⟩
theorem witness_RunsStartingWithInitSucceed : fresh.cfg.admissible = true ∧ decode 0b100#3 = .init
    ∧ (withInputs fresh [.issue 0b100#3 high, .issue 0b111#3 high]).inputs
      = .issue 0b100#3 high :: [.issue 0b111#3 high]
    ∧ (∀ x ∈ [HostInput.issue 0b111#3 high], x.isIssue = true) ∧ ready.phase = .ready := by decide

end Sys2Proof.Tests
end

