-- ==== Sys2Proof/Proofs/LastReported.lean ====
section
/-! PROOFS. The register `LR` (10_state.md R22): GETREPORT alone writes it and does not read it, CHANGED reads it. -/

namespace Sys2Proof.Machine

theorem changedFn_eq_true_iff (x y : PinSnapshot) : changedFn x y = true ↔ x ≠ y := by
  rw [← Bool.not_eq_false, Ne, changedFn_eq_false]

/-- `LR` survives every operation but GETREPORT, in either phase. -/
theorem exec_lr_of_ne_getreport {i : Instr} {s t : State} (h : exec i s = .next t) (hi : ∀ d, i ≠ .getreport d) :
    t.lr = s.lr := by
  obtain ⟨-, hcase⟩ := exec_next_cases h
  obtain ⟨-, rfl⟩ | ⟨-, -, rfl⟩ | ⟨-, -, rfl⟩ | ⟨hg, -⟩ | ⟨hg, -⟩ | ⟨-, -, rfl⟩ := hcase
  · simp -- INIT
  · simp -- UPDATE
  · simp -- CHANGED
  · exact absurd hg (hi true)
  · exact absurd hg (hi false)
  · simp -- NotInitialized

/-- The commit is of `LS` as the operation found it: writing the report does not touch it. -/
theorem exec_getreport_ready_lr {s : State} (ha : s.cfg.admissible = true) (hp : s.phase = .ready) (d : Bool) :
    ∃ t, exec (.getreport d) s = .next t ∧ t.lr = s.ls :=
  ⟨_, exec_getreport_ready ha hp d, by cases d <;> simp⟩

/-- The commit overwrites `LR` and nothing before it looks there, so a Ready GETREPORT forgets what `LR` held; in
Uninitialized this fails, where `LR` is kept. -/
theorem exec_getreport_ready_ignores_lr {s : State} (ha : s.cfg.admissible = true) (hp : s.phase = .ready) (d : Bool)
    (x : PinSnapshot) : exec (.getreport d) { s with lr := x } = exec (.getreport d) s := by
  rw [exec_getreport_ready (s := { s with lr := x }) ha hp d, exec_getreport_ready ha hp d]
  cases d <;> rfl

end Sys2Proof.Machine

namespace Sys2Proof.Proofs

open Sys2Proof.Machine

/-- Settles O18: the inversion of `exec` for the operations that leave `LR`, the commit for GETREPORT, and the change
detector for CHANGED. -/
theorem lastReportedWrittenByGetReportAlone : Obligations.LastReportedWrittenByGetReportAlone := by
  refine ⟨fun i s t h hi => exec_lr_of_ne_getreport h hi, fun d s ha hp => ?getreport, fun s ha hp => ?changed⟩
  case getreport =>
    obtain ⟨t, ht, hlr⟩ := exec_getreport_ready_lr ha hp d
    exact ⟨t, ht, hlr, fun x =>
      ⟨t, (exec_getreport_ready_ignores_lr ha hp d x).trans ht, t.agreesOutsideFree_refl⟩⟩
  case changed =>
    exact ⟨_, exec_changed_ready ha hp, changedFn_eq_true_iff s.ls s.lr⟩

end Sys2Proof.Proofs
end

section
/-! PROOFS. The command word (30_encoding.md R63 to R66): its two fields, the decoder by the value of `op`, and the round
trips between operations and words. -/

namespace Sys2Proof

/-- A command word is nothing but its two fields (R63). -/
theorem ofBool_dField_append_opField (w : CommandWord) : BitVec.ofBool (dField w) ++ opField w = w := by
  revert w; decide

/-- Clearing bit 2 keeps `op`. -/
theorem clear_d_eq_append_opField (w : CommandWord) : w &&& 0b011#3 = 0b0#1 ++ opField w := by
  revert w; decide

theorem clear_d_eq_011_iff (w : CommandWord) : w &&& 0b011#3 = 0b011#3 ↔ opField w = 0b11#2 := by
  rw [clear_d_eq_append_opField]
  generalize opField w = op
  revert op; decide

theorem op_cases (op : BitVec 2) : op = 0b00#2 ∨ op = 0b01#2 ∨ op = 0b10#2 ∨ op = 0b11#2 := by
  revert op; decide

theorem decode_of_op_00 {w : CommandWord} (h : opField w = 0b00#2) : decode w = .init := by
  simp [decode, h]

theorem decode_of_op_01 {w : CommandWord} (h : opField w = 0b01#2) : decode w = .update := by
  simp [decode, h]

theorem decode_of_op_10 {w : CommandWord} (h : opField w = 0b10#2) : decode w = .changed := by
  simp [decode, h]

theorem decode_of_op_11 {w : CommandWord} (h : opField w = 0b11#2) : decode w = .getreport (dField w) := by
  simp [decode, h]

/-- `d` is ignored unless `op` is 11 (R66). -/
theorem decode_congr_op {v w : CommandWord} (h : opField v = opField w) (hw : opField w ≠ 0b11#2) :
    decode v = decode w := by
  obtain hop | hop | hop | hop := op_cases (opField w)
  · rw [decode_of_op_00 hop, decode_of_op_00 (h.trans hop)]
  · rw [decode_of_op_01 hop, decode_of_op_01 (h.trans hop)]
  · rw [decode_of_op_10 hop, decode_of_op_10 (h.trans hop)]
  · exact absurd hop hw

theorem encode_getreport (d : Bool) : encode (.getreport d) = BitVec.ofBool d ++ 0b11#2 := by
  cases d <;> rfl

theorem dField_encode_getreport (d : Bool) : dField (encode (.getreport d)) = d := by
  cases d <;> rfl

theorem decode_encode (i : Instr) : decode (encode i) = i := by
  cases i with
  | init => exact decode_of_op_00 Laws.CanonicalWord.init.2
  | update => exact decode_of_op_01 Laws.CanonicalWord.update.2
  | changed => exact decode_of_op_10 Laws.CanonicalWord.changed.2
  | getreport d =>
    rw [decode_of_op_11 (Laws.CanonicalWord.getreport d).2, dField_encode_getreport]

/-- A GETREPORT word is canonical whatever its `d`. -/
theorem encode_decode_of_op_11 {w : CommandWord} (h : opField w = 0b11#2) : encode (decode w) = w := by
  rw [decode_of_op_11 h, encode_getreport, ← h, ofBool_dField_append_opField]

/-- The canonical word of the three operations without an operand is the one with bit 2 clear. -/
theorem encode_decode_of_op_ne_11 {w : CommandWord} (h : opField w ≠ 0b11#2) :
    encode (decode w) = w &&& 0b011#3 := by
  rw [clear_d_eq_append_opField]
  obtain hop | hop | hop | hop := op_cases (opField w)
  · rw [decode_of_op_00 hop, hop]; rfl
  · rw [decode_of_op_01 hop, hop]; rfl
  · rw [decode_of_op_10 hop, hop]; rfl
  · exact absurd hop h

theorem encode_decode (w : CommandWord) :
    encode (decode w) = if w &&& 0b011#3 = 0b011#3 then w else w &&& 0b011#3 := by
  split
  next h => exact encode_decode_of_op_11 ((clear_d_eq_011_iff w).mp h)
  next h => exact encode_decode_of_op_ne_11 (mt (clear_d_eq_011_iff w).mpr h)

end Sys2Proof

namespace Sys2Proof.Proofs

/-- Settles O2: the decoder by the value of `op`; the canonical words are the encoder's table, read back by
`decode_encode`. -/
theorem opcodeMapWords : Obligations.OpcodeMapWords :=
  ⟨fun _ => ⟨decode_of_op_00, decode_of_op_01, decode_of_op_10, decode_of_op_11⟩,
    ⟨decode_encode .init, decode_encode .update, decode_encode .changed, decode_encode (.getreport false),
      decode_encode (.getreport true)⟩,
    ⟨rfl, rfl, rfl, rfl, rfl⟩⟩

/-- Settles O3: both round trips, and the aliases as words that differ from the canonical ones in an ignored `d`. -/
theorem decodeEncodeRoundTrip : Obligations.DecodeEncodeRoundTrip :=
  ⟨fun i _ => decode_encode i, encode_decode,
    ⟨decode_congr_op rfl (by decide), decode_congr_op rfl (by decide), decode_congr_op rfl (by decide)⟩⟩

end Sys2Proof.Proofs
end

section
/-! PROOFS. The dpad resolver (41_dpad_resolver.md R85, R86): its table, entry by entry; the policy bit by bit stands in
the lemmas `resolve_getLsbD_zero` to `resolve_getLsbD_three`. -/

namespace Sys2Proof.Machine

/-- The literals of 41_dpad_resolver.md R85, as `RESOLVE` of 0 to 15 in order. -/
theorem map_resolve_range_sixteen :
    (List.range 16).map (fun i => (resolve (BitVec.ofNat 4 i)).toNat)
      = [0, 1, 2, 1, 4, 5, 6, 5, 8, 9, 10, 9, 8, 9, 10, 9] := by
  decide

end Sys2Proof.Machine

namespace Sys2Proof.Proofs

open Sys2Proof.Machine

/-- Settles O21: the table entry by entry, and the policy by the lemma of each of the four directions. -/
theorem dpadTableAndPolicy : Obligations.DpadTableAndPolicy :=
  ⟨map_resolve_range_sixteen, fun d =>
    ⟨resolve_getLsbD_zero d, resolve_getLsbD_one d, resolve_getLsbD_two d, resolve_getLsbD_three d⟩⟩

end Sys2Proof.Proofs
end

section
/-! PROOFS. The bit mapper (42_bit_mapper.md R96, R97). Read through `line0`, an admissible table is a rearrangement of
the eight lines; the count of ones, the identity in SNES mode and the A/B swap in NES mode follow from it.
Home is the only line that reaches byte 1 in NES mode. -/

namespace Sys2Proof.Machine

@[simp] theorem remap_byte0 (c : Config) (r0 a1 : Byte) : (remap c r0 a1).byte0 = remapByte0 c r0 := rfl

@[simp] theorem remap_byte1 (c : Config) (r0 a1 : Byte) : (remap c r0 a1).byte1 = remapByte1 c a1 := rfl

/-! ### Byte 0 -/

/-- R95 (a) as a statement about lists: the table names each line exactly once. -/
theorem map_line0_range_perm {c : Config} (h : c.admissible = true) :
    ((List.range 8).map (line0 c)).Perm (List.range 8) := by
  have distinct : ((List.range 8).map (line0 c)).Nodup :=
    List.nodup_range.map_on fun i hi j hj => line0_inj h (List.mem_range.mp hi) (List.mem_range.mp hj)
  refine (List.perm_ext_iff_of_nodup distinct List.nodup_range).mpr fun l => ?_
  simp only [List.mem_map, List.mem_range]
  constructor
  · rintro ⟨k, -, rfl⟩
    exact line0_lt c k
  · exact line0_surj h

/-- No 1 is lost or made. -/
theorem onesOf_remapByte0 {c : Config} (h : c.admissible = true) (r : Byte) : onesOf (remapByte0 c r) = onesOf r :=
  calc onesOf (remapByte0 c r)
    _ = (List.range 8).countP (r.getLsbD ∘ line0 c) :=
      List.countP_congr fun k hk => by simp [remapByte0_getLsbD c r (List.mem_range.mp hk)]
    _ = ((List.range 8).map (line0 c)).countP r.getLsbD := List.countP_map.symm
    _ = onesOf r := (map_line0_range_perm h).countP_eq _

/-- R95 (b), as line numbers. -/
theorem line0_of_snes {c : Config} (h : c.admissible = true) (hm : c.mode = .snes12ButtonHome) {k : Nat} (hk : k < 8) :
    line0 c k = k := by
  rw [line0_fin c ⟨k, hk⟩, src0_of_snes h hm]

/-- R95 (c), as line numbers: B is on line 7, A on line 6. -/
theorem line0_of_nes {c : Config} (h : c.admissible = true) (hm : c.mode = .nes8Button) :
    line0 c 0 = 7 ∧ line0 c 1 = 6 := by
  obtain ⟨hb, ha⟩ := src0_of_nes h hm
  exact ⟨(line0_fin c 0).trans (congrArg Fin.val hb), (line0_fin c 1).trans (congrArg Fin.val ha)⟩

theorem remapByte0_of_snes {c : Config} (h : c.admissible = true) (hm : c.mode = .snes12ButtonHome) (r : Byte) :
    remapByte0 c r = r :=
  byte_ext fun k hk => by rw [remapByte0_getLsbD c r hk, line0_of_snes h hm hk]

theorem remapByte0_of_nes {c : Config} (h : c.admissible = true) (hm : c.mode = .nes8Button) (r : Byte) :
    (remapByte0 c r).getLsbD 0 = r.getLsbD 7 ∧ (remapByte0 c r).getLsbD 1 = r.getLsbD 6 := by
  obtain ⟨hb, ha⟩ := line0_of_nes h hm
  rw [remapByte0_getLsbD c r (by decide), remapByte0_getLsbD c r (by decide), hb, ha]
  exact ⟨rfl, rfl⟩

/-! ### Byte 1 in NES mode -/

/-- Home is bit 12 of the canonical layout, so bit 4 of byte 1. -/
theorem homeMask_getLsbD {k : Nat} (hk : k < 8) : (0x10#8).getLsbD k = decide (k = 4) := by
  interval_cases k <;> rfl

/-- Bit 4 is Home and every other bit is 0; the admissibility of the wiring is not needed. -/
theorem remapByte1_getLsbD_of_nes {c : Config} (hm : c.mode = .nes8Button) (a : Byte) {k : Nat} (hk : k < 8) :
    (remapByte1 c a).getLsbD k = (decide (k = 4) && a.getLsbD c.homeSrc) := by
  rw [remapByte1_getLsbD c a hk, hm]
  split
  next hhome => simp [hhome]
  next hother => simp [hother]

theorem remapByte1_of_nes {c : Config} (hm : c.mode = .nes8Button) (a : Byte) :
    remapByte1 c a = if a.getLsbD c.homeSrc then 0x10#8 else 0x00#8 := by
  refine byte_ext fun k hk => ?_
  rw [remapByte1_getLsbD_of_nes hm a hk]
  split
  next hpressed => rw [homeMask_getLsbD hk, hpressed, Bool.and_true]
  next hreleased => simp [hreleased]

end Sys2Proof.Machine

namespace Sys2Proof.Proofs

open Sys2Proof.Machine

/-- Settles O22: each bit from its line, the count by the rearrangement of the lines, and the table of each mode. -/
theorem remapPermutesPrimaryBus : Obligations.RemapPermutesPrimaryBus := by
  intro c r0 a1 h
  refine ⟨fun k => ?bits, onesOf_remapByte0 h r0, fun hm => remapByte0_of_snes h hm r0,
    fun hm => remapByte0_of_nes h hm r0⟩
  case bits => rw [remap_byte0, remapByte0_getLsbD c r0 k.isLt, line0_fin]

/-- Settles O23: byte 1 bit by bit, with Home pressed and with Home released. -/
theorem nesByteOneIsHomeAlone : Obligations.NesByteOneIsHomeAlone := by
  intro c r0 a1 _ hm
  rw [remap_byte1, remapByte1_of_nes hm a1]

end Sys2Proof.Proofs
end

section
/-! PROOFS. The change detector (43_change_detector.md R105): inequality of snapshots, read bit by bit and without a mask. -/

namespace Sys2Proof.Machine

theorem byte_ne_iff (a b : Byte) : a ≠ b ↔ ∃ k, k < 8 ∧ a.getLsbD k ≠ b.getLsbD k := by
  constructor
  case mp =>
    intro hne
    by_contra! hall
    exact hne (byte_ext hall)
  case mpr =>
    rintro ⟨k, -, hk⟩ rfl
    exact hk rfl

theorem snapshot_ne_iff (x y : PinSnapshot) : x ≠ y ↔ x.byte0 ≠ y.byte0 ∨ x.byte1 ≠ y.byte1 := by
  rw [Ne, PinSnapshot.mk.injEq, not_and_or]

end Sys2Proof.Machine

namespace Sys2Proof.Proofs

open Sys2Proof.Machine

/-- Settles O28: a change is an inequality of snapshots, hence of one of the bytes, hence of one of its eight bits. -/
theorem changeDetectorSeesEveryBit : Obligations.ChangeDetectorSeesEveryBit := by
  intro cur last
  rw [changedFn_eq_true_iff, snapshot_ne_iff, byte_ne_iff, byte_ne_iff, ← exists_or]
  simp only [and_or_left]

end Sys2Proof.Proofs
end

section
/-! PROOFS. INIT (44_operations.md R111) and the sample it takes when no line is low. -/

namespace Sys2Proof.Machine

/-- Every bit of a byte of active lines comes from a line, so no active line gives no button. -/
theorem remapByte1_zero (c : Config) : remapByte1 c 0x00#8 = 0x00#8 := by
  refine byte_ext fun k hk => ?_
  rw [remapByte1_getLsbD c _ hk]
  cases c.mode <;> simp

theorem rawDpad_zero (c : Config) : rawDpad c 0x00#8 = 0#4 :=
  BitVec.eq_of_getLsbD_eq fun i hi => by rw [rawDpad_getLsbD c _ hi, BitVec.getLsbD_zero, BitVec.getLsbD_zero]

theorem sample_all_high {c : Config} (h : c.admissible = true) :
    sample c ⟨0xFF#8, 0xFF#8⟩ = ⟨0x00#8, 0x00#8⟩ := by
  have inactive : ~~~(0xFF#8) = 0x00#8 := by decide
  have neutral : resolve 0#4 = 0#4 := by decide
  have byte0 : (sample c ⟨0xFF#8, 0xFF#8⟩).byte0 = 0x00#8 := byte_ext fun k hk => by
    rw [sample_byte0_getLsbD h _ hk, inactive, rawDpad_zero, neutral]
    simp
  have byte1 : (sample c ⟨0xFF#8, 0xFF#8⟩).byte1 = 0x00#8 :=
    (congrArg (remapByte1 c) inactive).trans (remapByte1_zero c)
  exact congrArg₂ PinSnapshot.mk byte0 byte1

end Sys2Proof.Machine

namespace Sys2Proof.Proofs

open Sys2Proof.Machine

/-- Settles O8: the field lemmas of INIT's chain of named operations, and the sample of all-high lines. -/
theorem initEffect : Obligations.InitEffect := by
  refine ⟨rfl, fun s ha => ⟨_, exec_init ha, ?_⟩⟩
  have released : s.pins = ⟨0xFF#8, 0xFF#8⟩ → sample s.cfg s.pins = ⟨0x00#8, 0x00#8⟩ := fun hp =>
    hp ▸ sample_all_high ha
  simpa using released

end Sys2Proof.Proofs
end

section
/-! PROOFS. GETREPORT in Ready (44_operations.md R114, R118): with a record and without one. -/

namespace Sys2Proof.Machine

theorem extractLsb'_packButtons_low (x : PinSnapshot) : (packButtons x).extractLsb' 0 8 = x.byte0 :=
  byte_ext fun k hk => by simp [hk, packButtons_getLsbD_low]

theorem extractLsb'_packButtons_high (x : PinSnapshot) : (packButtons x).extractLsb' 8 8 = x.byte1 :=
  byte_ext fun k hk => by simp [hk, packButtons_getLsbD_high]

/-- A supplied record holds the snapshot as the operation found it, twice: as the mask and as the raw bytes. -/
theorem exec_getreport_true_report {s t : State} (hp : s.phase = .ready) (h : exec (.getreport true) s = .next t) :
    t.report = ⟨padOf s.cfg.mode, packButtons s.ls, s.ls⟩ := by
  obtain ⟨ha, -⟩ := exec_next_cases h
  cases (exec_getreport_ready ha hp true).symm.trans h
  simp

end Sys2Proof.Machine

namespace Sys2Proof.Proofs

open Sys2Proof.Machine

/-- Settles O11: with a record the three fields are those of `writeReport`, the mask read back byte by byte; without
one nothing but the commit is left. -/
theorem getReportFields : Obligations.GetReportFields := by
  intro d s ha hp
  cases d with
  | true =>
    refine ⟨_, exec_getreport_ready ha hp true, ?_⟩
    cases hm : s.cfg.mode <;> simp [hp, hm, padOf, extractLsb'_packButtons_low, extractLsb'_packButtons_high]
  | false => exact ⟨_, exec_getreport_ready ha hp false, by simp [hp]⟩

end Sys2Proof.Proofs
end

section
/-! PROOFS. Runs of a serial host (44_operations.md R115, R117). What one operation can do to the outcome, `LS` and `LR` is
said once; a predicate that the operations a host may issue keep then holds along its whole run. -/

namespace Sys2Proof.Machine

/-! ### One operation -/

theorem exec_frame {i : Instr} {s t : State} (h : exec i s = .next t) :
    t.cfg = s.cfg ∧ t.pins = s.pins ∧ t.inputs = s.inputs := by
  obtain ⟨-, hcase⟩ := exec_next_cases h
  -- whichever chain of named operations `t` is, none of them writes these three
  obtain ⟨-, rfl⟩ | ⟨-, -, rfl⟩ | ⟨-, -, rfl⟩ | ⟨-, -, rfl⟩ | ⟨-, -, rfl⟩ | ⟨-, -, rfl⟩ := hcase <;> simp

/-- The only way not to succeed is an operation other than INIT in Uninitialized. -/
theorem exec_succeeds {i : Instr} {s t : State} (h : exec i s = .next t) (hs : s.phase = .ready ∨ i = .init) :
    t.status = .success ∧ t.phase = .ready ∧ faultsOf t.trace = faultsOf s.trace := by
  obtain ⟨-, hcase⟩ := exec_next_cases h
  obtain ⟨-, rfl⟩ | ⟨-, hp, rfl⟩ | ⟨-, hp, rfl⟩ | ⟨-, hp, rfl⟩ | ⟨-, hp, rfl⟩ | ⟨hi, hp, -⟩ := hcase
  · simp -- INIT
  · simp [hp] -- UPDATE
  · simp [hp] -- CHANGED
  · simp [hp] -- GETREPORT with a record
  · simp [hp] -- GETREPORT without one
  · simp [hp, hi] at hs -- NotInitialized

theorem exec_ls_cases {i : Instr} {s t : State} (h : exec i s = .next t) :
    t.ls = s.ls ∨ (i = .init ∨ i = .update) ∧ t.ls = sample s.cfg s.pins := by
  obtain ⟨-, hcase⟩ := exec_next_cases h
  obtain ⟨rfl, rfl⟩ | ⟨rfl, -, rfl⟩ | ⟨-, -, rfl⟩ | ⟨-, -, rfl⟩ | ⟨-, -, rfl⟩ | ⟨-, -, rfl⟩ := hcase
  · exact .inr ⟨.inl rfl, by simp⟩ -- INIT
  · exact .inr ⟨.inr rfl, by simp⟩ -- UPDATE
  · exact .inl (by simp) -- CHANGED
  · exact .inl (by simp) -- GETREPORT with a record
  · exact .inl (by simp) -- GETREPORT without one
  · exact .inl (by simp) -- NotInitialized

/-- `LR` is kept or becomes the `LS` of the commit. -/
theorem exec_lr_cases {i : Instr} {s t : State} (h : exec i s = .next t) : t.lr = s.lr ∨ t.lr = s.ls := by
  obtain ⟨-, hcase⟩ := exec_next_cases h
  obtain ⟨-, rfl⟩ | ⟨-, -, rfl⟩ | ⟨-, -, rfl⟩ | ⟨-, -, rfl⟩ | ⟨-, -, rfl⟩ | ⟨-, -, rfl⟩ := hcase
  · exact .inl (by simp) -- INIT
  · exact .inl (by simp) -- UPDATE
  · exact .inl (by simp) -- CHANGED
  · exact .inr (by simp) -- GETREPORT with a record
  · exact .inr (by simp) -- GETREPORT without one
  · exact .inl (by simp) -- NotInitialized

/-! ### A run of issued operations -/

/-- `P` asks for an admissible configuration and says nothing of the ports the host drives, and it is kept by every
operation `i` that the host may issue while the levels `p` stand on the pins: `A i p`. -/
structure KeptByOperations (P : State → Prop) (A : Instr → PinPair → Prop) : Prop where
  admissible : ∀ {s}, P s → s.cfg.admissible = true
  taking : ∀ {s} r p, P s → P (s.taking r p)
  exec : ∀ {i s t}, P s → A i s.pins → Machine.exec i s = .next t → P t

section

variable {P : State → Prop} {A : Instr → PinPair → Prop}

theorem step_keeps (hk : KeptByOperations P A) {s : State} {w : CommandWord} {p : PinPair} {r : List HostInput}
    (hP : P s) (hi : s.inputs = .issue w p :: r) (hA : A (decode w) p) :
    ∃ t, step s = .next t ∧ P t ∧ t.inputs = r := by
  have hT : P (s.taking r p) := hk.taking r p hP
  obtain ⟨t, ht⟩ := exec_of_admissible (decode w) (hk.admissible hT)
  obtain ⟨-, -, hin⟩ := exec_frame ht
  exact ⟨t, (step_of_issue hi).trans ht, hk.exec hT hA ht, hin⟩

theorem run_keeps (hk : KeptByOperations P A) (k : Nat) {s : State} (hP : P s)
    (hA : ∀ x ∈ s.inputs, ∃ w p, x = .issue w p ∧ A (decode w) p) : ∃ t : State, core.run k s = .next t ∧ P t := by
  refine run_induct P (fun x => ∃ w p, x = .issue w p ∧ A (decode w) p) ?step k s hP hA
  rintro s _ r hP hi ⟨w, p, rfl, hA⟩
  exact step_keeps hk hP hi hA

/-- A first operation that establishes `P` is enough for `P` after any number of further steps. -/
theorem run_succ_keeps (hk : KeptByOperations P A) (k : Nat) {s : State} {w : CommandWord} {p : PinPair}
    {rest : List HostInput} (ha : s.cfg.admissible = true) (hi : s.inputs = .issue w p :: rest)
    (hfirst : ∀ t, exec (decode w) (s.taking rest p) = .next t → P t)
    (hA : ∀ x ∈ rest, ∃ w p, x = .issue w p ∧ A (decode w) p) :
    ∃ t : State, core.run (k + 1) s = .next t ∧ P t := by
  obtain ⟨u, hu⟩ := exec_of_admissible (s := s.taking rest p) (decode w) ha
  obtain ⟨-, -, hin⟩ := exec_frame hu
  obtain ⟨t, ht, hPt⟩ := run_keeps hk k (hfirst u hu) (by simpa [hin] using hA)
  exact ⟨t, (run_succ k ((step_of_issue hi).trans hu)).trans ht, hPt⟩

end

theorem HostInput.isIssue_iff (x : HostInput) : x.isIssue = true ↔ ∃ w p, x = .issue w p := by
  cases x <;> simp [HostInput.isIssue]

/-! ### Ready and successful -/

/-- Ready after a success, with the configuration `c` and the faults `fs` in the launch record. -/
structure State.Serving (c : Config) (fs : List Fault) (s : State) : Prop where
  cfg : s.cfg = c
  phase : s.phase = .ready
  status : s.status = .success
  faults : faultsOf s.trace = fs

theorem serving_of_exec {i : Instr} {s t : State} (h : exec i s = .next t) (hs : s.phase = .ready ∨ i = .init) :
    t.Serving s.cfg (faultsOf s.trace) := by
  obtain ⟨hcfg, -, -⟩ := exec_frame h
  obtain ⟨hstatus, hphase, hfaults⟩ := exec_succeeds h hs
  exact ⟨hcfg, hphase, hstatus, hfaults⟩

theorem serving_kept {c : Config} (ha : c.admissible = true) (fs : List Fault) :
    KeptByOperations (State.Serving c fs) fun _ _ => True where
  admissible hs := hs.cfg ▸ ha
  taking _ _ hs := ⟨hs.cfg, hs.phase, hs.status, hs.faults⟩
  exec hs _ h := by
    have ht := serving_of_exec h (.inl hs.phase)
    rwa [hs.cfg, hs.faults] at ht

/-! ### Nothing pending -/

/-- Serving with the snapshot `x` both sampled and reported. -/
structure State.Committed (c : Config) (fs : List Fault) (x : PinSnapshot) (s : State) : Prop
    extends State.Serving c fs s where
  ls : s.ls = x
  lr : s.lr = x

theorem State.Committed.changedFn_eq_false {c : Config} {fs : List Fault} {x : PinSnapshot} {s : State}
    (h : s.Committed c fs x) : changedFn s.ls s.lr = false := by
  rw [h.ls, h.lr, changedFn_self]

theorem committed_of_exec_getreport {d : Bool} {s t : State} (hp : s.phase = .ready)
    (h : exec (.getreport d) s = .next t) : t.Committed s.cfg (faultsOf s.trace) s.ls := by
  obtain ⟨ha, -⟩ := exec_next_cases h
  have hls : t.ls = s.ls := (exec_ls_cases h).resolve_right (by simp)
  obtain ⟨u, hu, hlr⟩ := exec_getreport_ready_lr ha hp d
  cases hu.symm.trans h
  exact ⟨serving_of_exec h (.inl hp), hls, hlr⟩

/-- An operation that samples keeps the commit when it samples the committed snapshot again. -/
theorem committed_kept {c : Config} (ha : c.admissible = true) (fs : List Fault) (x : PinSnapshot) :
    KeptByOperations (State.Committed c fs x) fun i p => (i = .init ∨ i = .update) → sample c p = x where
  admissible hs := (serving_kept ha fs).admissible hs.toServing
  taking r p hs := ⟨(serving_kept ha fs).taking r p hs.toServing, hs.ls, hs.lr⟩
  exec {i s t} hs hA h := by
    have hls : t.ls = x := by
      obtain hkept | ⟨hi, hsample⟩ := exec_ls_cases h
      · exact hkept.trans hs.ls
      · rw [hsample, hs.cfg, hA hi]
    have hlr : t.lr = x := (exec_lr_cases h).elim (·.trans hs.lr) (·.trans hs.ls)
    exact ⟨(serving_kept ha fs).exec hs.toServing trivial h, hls, hlr⟩

end Sys2Proof.Machine

namespace Sys2Proof.Proofs

open Sys2Proof.Machine

/-- Settles O37: the INIT makes the state a serving one, and every operation keeps it so. -/
theorem runsStartingWithInitSucceed : Obligations.RunsStartingWithInitSucceed := by
  refine ⟨fun i s ha hs => ?operation, fun s w p rest ha hi hw hrest k => ?run⟩
  case operation =>
    obtain ⟨t, ht⟩ := exec_of_admissible i ha
    exact ⟨t, ht, (serving_of_exec ht hs).status⟩
  case run =>
    have issued : ∀ x ∈ rest, ∃ v q, x = .issue v q ∧ True := fun x hx => by
      simpa using x.isIssue_iff.mp (hrest x hx)
    obtain ⟨t, ht, hserving⟩ := run_succ_keeps (serving_kept ha (faultsOf s.trace)) k ha hi
      (fun u hu => serving_of_exec (s := s.taking rest p) hu (.inr hw)) issued
    exact ⟨t, ht, hserving.status, hserving.phase, hserving.faults⟩

/-- Settles O12: the GETREPORT makes `LS` and `LR` one snapshot, and every operation the host may issue keeps both. -/
theorem commitClearsPendingChange : Obligations.CommitClearsPendingChange := by
  refine ⟨fun d s ha hp => ?commit, fun i s t h hi => exec_lr_of_ne_getreport h hi,
    fun s w p rest d ha hp hi hw hrest k => ?run⟩
  case commit =>
    obtain ⟨t, ht⟩ := exec_of_admissible (.getreport d) ha
    have hcommitted := committed_of_exec_getreport hp ht
    have hreport : d = true → t.report.rawData = t.lr ∧ t.report.buttons = packButtons t.lr := by
      rintro rfl
      rw [exec_getreport_true_report hp ht, hcommitted.lr]
      exact ⟨rfl, rfl⟩
    have hadm : t.cfg.admissible = true := hcommitted.cfg ▸ ha
    exact ⟨t, ht, hcommitted.lr, hreport, _, exec_changed_ready hadm hcommitted.phase, hcommitted.changedFn_eq_false⟩
  case run =>
    have same : ∀ x ∈ rest, ∃ v q, x = .issue v q ∧
        ((decode v = .init ∨ decode v = .update) → sample s.cfg q = s.ls) := fun x hx => by
      obtain ⟨v, q, rfl, hv | ⟨e, hv⟩ | ⟨-, hq⟩⟩ := hrest x hx
      · exact ⟨v, q, rfl, by simp [hv]⟩
      · exact ⟨v, q, rfl, by simp [hv]⟩
      · exact ⟨v, q, rfl, fun _ => hq⟩
    obtain ⟨t, ht, hcommitted⟩ := run_succ_keeps (committed_kept ha (faultsOf s.trace) s.ls) k ha hi
      (fun u hu => committed_of_exec_getreport (s := s.taking rest p) hp (hw ▸ hu)) same
    exact ⟨t, ht, hcommitted.changedFn_eq_false, hcommitted.status⟩

end Sys2Proof.Proofs
end

section
/-! PROOFS. The datapath from the levels of the sixteen lines to the snapshot (40_sampler.md R76, R81; 42_bit_mapper.md R97,
R98): the sample byte by byte, with the dpad field taken as a whole, and byte 1 from the selected lines alone. -/

namespace Sys2Proof.Machine

/-! ### The dpad field of byte 0 -/

/-- Permuting brings the four dpad lines to bits 7:4. -/
theorem extractLsb'_remapByte0_dpad (c : Config) (a : Byte) : (remapByte0 c a).extractLsb' 4 4 = rawDpad c a :=
  BitVec.eq_of_getLsbD_eq fun i hi => by
    rw [BitVec.getLsbD_extractLsb', rawDpad_getLsbD c a hi, remapByte0_getLsbD c a (by omega)]
    simp [hi]

theorem sample_byte0_eq {c : Config} (h : c.admissible = true) (p : PinPair) :
    (sample c p).byte0 = resolve (rawDpad c (~~~p.pins0)) ++ (remapByte0 c (~~~p.pins0)).extractLsb' 0 4 := by
  refine byte_ext fun k hk => ?_
  rw [sample_byte0_getLsbD h p hk, BitVec.getLsbD_append]
  by_cases hface : k < 4
  · rw [if_neg (by omega), if_pos hface, BitVec.getLsbD_extractLsb', Nat.zero_add, remapByte0_getLsbD c _ hk]
    simp [hface]
  · rw [if_pos (by omega), if_neg hface]

theorem sample_byte1_eq (c : Config) (p : PinPair) : (sample c p).byte1 = remapByte1 c (~~~p.pins1) := rfl

theorem sample_eq_samplePermutedFirst {c : Config} (h : c.admissible = true) (p : PinPair) :
    sample c p = samplePermutedFirst c p := by
  have byte0 : (sample c p).byte0 = (samplePermutedFirst c p).byte0 := by
    rw [sample_byte0_eq h, ← extractLsb'_remapByte0_dpad]
    rfl
  exact congrArg₂ PinSnapshot.mk byte0 (sample_byte1_eq c p)

/-! ### Byte 1 -/

theorem remapByte1_getLsbD_home (c : Config) (a : Byte) : (remapByte1 c a).getLsbD 4 = a.getLsbD c.homeSrc := by
  rw [remapByte1_getLsbD c a (by decide), if_pos rfl]

theorem remapByte1_getLsbD_face (c : Config) (a : Byte) (k : Fin 4) :
    (remapByte1 c a).getLsbD k.val =
      match c.mode with
      | .nes8Button => false
      | .snes12ButtonHome => a.getLsbD (c.src1[k]).val := by
  rw [remapByte1_getLsbD c a (by omega), if_neg (by omega)]
  cases c.mode with
  | nes8Button => rfl
  | snes12ButtonHome => simp [line1_fin]

/-- Bits 13 to 15 of the canonical layout carry no button. -/
theorem remapByte1_getLsbD_unused (c : Config) (a : Byte) {k : Nat} (hlo : 4 < k) (hk : k < 8) :
    (remapByte1 c a).getLsbD k = false := by
  rw [remapByte1_getLsbD c a hk, if_neg (by omega)]
  cases c.mode with
  | nes8Button => rfl
  | snes12ButtonHome => simp [show ¬ k < 4 by omega]

theorem extractLsb'_remapByte1_unused (c : Config) (a : Byte) : (remapByte1 c a).extractLsb' 5 3 = 0#3 :=
  BitVec.eq_of_getLsbD_eq fun i hi => by
    rw [BitVec.getLsbD_extractLsb', remapByte1_getLsbD_unused c a (by omega) (by omega)]
    simp

/-- Two bytes of active lines that agree on the selected lines give the same byte 1 (42_bit_mapper.md section 3). -/
theorem remapByte1_congr {c : Config} {a b : Byte} (hhome : a.getLsbD c.homeSrc = b.getLsbD c.homeSrc)
    (hface : c.mode = .snes12ButtonHome → ∀ k : Fin 4, a.getLsbD (c.src1[k]).val = b.getLsbD (c.src1[k]).val) :
    remapByte1 c a = remapByte1 c b := by
  refine byte_ext fun k hk => ?_
  obtain hlt | rfl | hgt := lt_trichotomy k 4
  · rw [remapByte1_getLsbD_face c a ⟨k, hlt⟩, remapByte1_getLsbD_face c b ⟨k, hlt⟩]
    cases hm : c.mode with
    | nes8Button => rfl
    | snes12ButtonHome => exact hface hm ⟨k, hlt⟩
  · rw [remapByte1_getLsbD_home, remapByte1_getLsbD_home, hhome]
  · rw [remapByte1_getLsbD_unused c a hgt hk, remapByte1_getLsbD_unused c b hgt hk]

/-! ### The sample from the levels -/

theorem sample_byte0_getLsbD_face {c : Config} (h : c.admissible = true) (p : PinPair) (k : Fin 8) (hk : k.val < 4) :
    (sample c p).byte0.getLsbD k.val = !p.pins0.getLsbD (c.src0[k]).val := by
  rw [sample_byte0_getLsbD h p k.isLt, if_neg (by omega), line0_fin, active_getLsbD _ (c.src0[k]).isLt]

theorem sample_byte0_getLsbD_dpad {c : Config} (h : c.admissible = true) (p : PinPair) {i : Nat} (hi : i < 4) :
    (sample c p).byte0.getLsbD (4 + i) = (resolve (rawDpad c (~~~p.pins0))).getLsbD i := by
  rw [sample_byte0_getLsbD h p (by omega), if_pos (by omega), Nat.add_sub_cancel_left]

theorem rawDpad_active_getLsbD (c : Config) (p : PinPair) (k : Fin 8) {i : Nat} (hi : i < 4) (hk : k.val = 4 + i) :
    (rawDpad c (~~~p.pins0)).getLsbD i = !p.pins0.getLsbD (c.src0[k]).val := by
  rw [rawDpad_getLsbD c _ hi, ← hk, line0_fin, active_getLsbD _ (c.src0[k]).isLt]

theorem sample_congr {c : Config} (h : c.admissible = true) {p q : PinPair} (hbus0 : p.pins0 = q.pins0)
    (hhome : p.pins1.getLsbD c.homeSrc = q.pins1.getLsbD c.homeSrc)
    (hface : c.mode = .snes12ButtonHome →
      ∀ k : Fin 4, p.pins1.getLsbD (c.src1[k]).val = q.pins1.getLsbD (c.src1[k]).val) :
    sample c p = sample c q := by
  have byte0 : (sample c p).byte0 = (sample c q).byte0 := by rw [sample_byte0_eq h, sample_byte0_eq h, hbus0]
  have byte1 : (sample c p).byte1 = (sample c q).byte1 := by
    refine remapByte1_congr ?home fun hm k => ?face
    case home => rw [active_getLsbD _ (homeSrc_lt h), active_getLsbD _ (homeSrc_lt h), hhome]
    case face => rw [active_getLsbD _ (c.src1[k]).isLt, active_getLsbD _ (c.src1[k]).isLt, hface hm k]
  exact congrArg₂ PinSnapshot.mk byte0 byte1

theorem allHigh_getLsbD {k : Nat} (hk : k < 8) : (0xFF#8).getLsbD k = true := by
  revert k; decide

/-- Nothing is pressed exactly when every line that carries a button stands high: the resolver drops a direction only
for its opposite, so it loses no press altogether (41_dpad_resolver.md section 3). -/
theorem sample_eq_zero_iff {c : Config} (h : c.admissible = true) (p : PinPair) :
    sample c p = ⟨0x00#8, 0x00#8⟩ ↔
      (∀ k : Fin 8, p.pins0.getLsbD (c.src0[k]).val = true) ∧ p.pins1.getLsbD c.homeSrc = true
        ∧ (c.mode = .snes12ButtonHome → ∀ k : Fin 4, p.pins1.getLsbD (c.src1[k]).val = true) := by
  constructor
  case mp =>
    intro hzero
    have dpad : rawDpad c (~~~p.pins0) = 0#4 := by
      have lossless : ∀ d : DpadField, (∀ i < 4, (resolve d).getLsbD i = false) → d = 0#4 := by decide
      exact lossless _ fun i hi => by rw [← sample_byte0_getLsbD_dpad h p hi, hzero, BitVec.getLsbD_zero]
    have home := remapByte1_getLsbD_home c (~~~p.pins1)
    have face := remapByte1_getLsbD_face c (~~~p.pins1)
    rw [← sample_byte1_eq, hzero] at home face
    refine ⟨fun k => ?bus0, ?home, fun hm k => ?face⟩
    case bus0 =>
      by_cases hk : k.val < 4
      · have := sample_byte0_getLsbD_face h p k hk
        simpa [hzero] using this
      · have := rawDpad_active_getLsbD c p k (i := k.val - 4) (by omega) (by omega)
        simpa [dpad] using this
    case home => simpa [active_getLsbD _ (homeSrc_lt h)] using home
    case face => simpa [hm] using face k
  case mpr =>
    rintro ⟨hbus0, hhome, hface⟩
    have released : p.pins0 = 0xFF#8 := byte_ext fun l hl => by
      obtain ⟨k, hk, rfl⟩ := line0_surj h hl
      rw [line0_fin c ⟨k, hk⟩, hbus0, allHigh_getLsbD (Fin.isLt _)]
    rw [← sample_all_high h]
    exact sample_congr h released (by rw [hhome, allHigh_getLsbD (homeSrc_lt h)]) fun hm k => by
      rw [hface hm k, allHigh_getLsbD (Fin.isLt _)]

end Sys2Proof.Machine

namespace Sys2Proof.Proofs

open Sys2Proof.Machine

/-- Settles O24: byte 1 by its three groups of bits. -/
theorem snesByteOneLayout : Obligations.SnesByteOneLayout := by
  intro c r0 a1 _ hm
  rw [remap_byte1]
  refine ⟨fun k => ?_, remapByte1_getLsbD_home c a1, extractLsb'_remapByte1_unused c a1⟩
  rw [remapByte1_getLsbD_face c a1 k, hm]

/-- Settles O25: the mask is the two bytes; byte 0 has its face buttons from their lines and its dpad by the resolver's
policy, byte 1 its three groups of bits. -/
theorem sampleInCanonicalLayout : Obligations.SampleInCanonicalLayout := by
  intro c p h low0 low1 m
  have low : ∀ {k : Nat}, k < 8 → m.getLsbD k = (sample c p).byte0.getLsbD k := packButtons_getLsbD_low _
  have high : ∀ {k : Nat}, k < 8 → m.getLsbD (8 + k) = (remapByte1 c (~~~p.pins1)).getLsbD k :=
    packButtons_getLsbD_high _
  have face : ∀ k : Fin 8, k.val < 4 → m.getLsbD k.val = low0 k := fun k hk =>
    (low k.isLt).trans (sample_byte0_getLsbD_face h p k hk)
  have dpad : ∀ {i : Nat}, i < 4 → m.getLsbD (4 + i) = (resolve (rawDpad c (~~~p.pins0))).getLsbD i := fun hi =>
    (low (by omega)).trans (sample_byte0_getLsbD_dpad h p hi)
  have unused : ∀ {k : Nat}, 4 < k → k < 8 → m.getLsbD (8 + k) = false := fun hlo hk =>
    (high hk).trans (remapByte1_getLsbD_unused c _ hlo hk)
  have up := rawDpad_active_getLsbD c p 4 (i := 0) (by decide) rfl
  have down := rawDpad_active_getLsbD c p 5 (i := 1) (by decide) rfl
  have left := rawDpad_active_getLsbD c p 6 (i := 2) (by decide) rfl
  have right := rawDpad_active_getLsbD c p 7 (i := 3) (by decide) rfl
  refine ⟨⟨face 0 (by decide), face 1 (by decide), face 2 (by decide), face 3 (by decide)⟩, ⟨?up, ?down, ?left, ?right⟩,
    fun k => ?extra, ?home, unused (k := 5) (by decide) (by decide), unused (k := 6) (by decide) (by decide),
    unused (k := 7) (by decide) (by decide)⟩
  case up => rw [dpad (i := 0) (by decide), resolve_getLsbD_zero, up]
  case down => rw [dpad (i := 1) (by decide), resolve_getLsbD_one, down, up]
  case left => rw [dpad (i := 2) (by decide), resolve_getLsbD_two, left, right]
  case right => rw [dpad (i := 3) (by decide), resolve_getLsbD_three, right]
  case extra =>
    rw [high (by omega), remapByte1_getLsbD_face]
    cases c.mode with
    | nes8Button => rfl
    | snes12ButtonHome => exact active_getLsbD _ (c.src1[k]).isLt
  case home => rw [high (k := 4) (by decide), remapByte1_getLsbD_home, active_getLsbD _ (homeSrc_lt h)]

/-- Settles O26: the dpad field of the permuted byte is the raw dpad, and the face buttons are not resolved. -/
theorem resolveThenRemapEqualsRemapThenResolve : Obligations.ResolveThenRemapEqualsRemapThenResolve :=
  fun _ p h => sample_eq_samplePermutedFirst h p

/-- Settles O27: byte 0 reads bus 0, byte 1 the selected lines of bus 1. -/
theorem unwiredLinesHaveNoEffect : Obligations.UnwiredLinesHaveNoEffect :=
  fun _ _ _ h hbus0 hhome hface => sample_congr h hbus0 hhome hface

end Sys2Proof.Proofs
end

section
/-! PROOFS. The three invariants (10_state.md section 9; 70_reset_and_hazards.md section 3; 44_operations.md section 8). Each
is a predicate that holds after construction and that taking an input, the reset and every operation keep; so every step
keeps it. -/

namespace Sys2Proof.Machine

/-! ### What every step keeps -/

/-- `P` is kept by each of the three things a step is made of. -/
structure KeptByStep (P : State → Prop) : Prop where
  taking : ∀ {s} r p, P s → P (s.taking r p)
  reset : ∀ {s}, P s → P s.resetInstance
  exec : ∀ {i s t}, P s → Machine.exec i s = .next t → P t

theorem KeptByStep.step {P : State → Prop} (hk : KeptByStep P) {s t : State} (hP : P s) (h : step s = .next t) : P t := by
  obtain ⟨-, rfl⟩ | ⟨r, -, rfl⟩ | ⟨w, p, r, -, hexec⟩ := step_next_cases h
  · exact hP
  · exact hk.reset (hk.taking r s.pins hP)
  · exact hk.exec (hk.taking r p hP) hexec

/-! ### Which operations read the pins -/

/-- The operations that sample: INIT, and UPDATE in Ready (20_memory.md section 11). -/
def State.Samples (s : State) (i : Instr) : Prop := i = .init ∨ i = .update ∧ s.phase = .ready

/-- `t` comes from `s` by an operation with one paired read, of the pins that stood in `s`. -/
structure State.SampledTo (s t : State) : Prop where
  ls : t.ls = sample s.cfg s.pins
  reads : readsOf t.trace = readsOf s.trace ++ [s.pins]
  window : t.atomicWindow = true

/-- `t` comes from `s` by an operation that reads no pin. -/
structure State.UnsampledTo (s t : State) : Prop where
  phase : t.phase = s.phase
  ls : t.ls = s.ls
  reads : readsOf t.trace = readsOf s.trace
  window : t.atomicWindow = false

/-- `LS`, the read and the window go together, and an operation without them leaves the phase. -/
theorem exec_sampling_cases {i : Instr} {s t : State} (h : exec i s = .next t) :
    s.Samples i ∧ s.SampledTo t ∨ ¬ s.Samples i ∧ s.UnsampledTo t := by
  obtain ⟨-, hcase⟩ := exec_next_cases h
  obtain ⟨rfl, rfl⟩ | ⟨rfl, hp, rfl⟩ | ⟨rfl, -, rfl⟩ | ⟨rfl, -, rfl⟩ | ⟨rfl, -, rfl⟩ | ⟨hi, hp, rfl⟩ := hcase
  · exact .inl ⟨.inl rfl, ⟨by simp, by simp, by simp⟩⟩ -- INIT
  · exact .inl ⟨.inr ⟨rfl, hp⟩, ⟨by simp, by simp, by simp⟩⟩ -- UPDATE
  · exact .inr ⟨by simp [State.Samples], ⟨by simp, by simp, by simp, by simp⟩⟩ -- CHANGED
  · exact .inr ⟨by simp [State.Samples], ⟨by simp, by simp, by simp, by simp⟩⟩ -- GETREPORT with a record
  · exact .inr ⟨by simp [State.Samples], ⟨by simp, by simp, by simp, by simp⟩⟩ -- GETREPORT without one
  · exact .inr ⟨by simp [State.Samples, hi, hp], ⟨by simp, by simp, by simp, by simp⟩⟩ -- NotInitialized

theorem exec_sampled {i : Instr} {s t : State} (h : exec i s = .next t) (hi : s.Samples i) : s.SampledTo t :=
  ((exec_sampling_cases h).resolve_right fun hno => hno.1 hi).2

theorem exec_unsampled {i : Instr} {s t : State} (h : exec i s = .next t) (hi : ¬ s.Samples i) : s.UnsampledTo t :=
  ((exec_sampling_cases h).resolve_left fun hyes => hi hyes.1).2

/-! ### Lawful snapshots -/

theorem snapshotLawful_zero (c : Config) : snapshotLawful c ⟨0x00#8, 0x00#8⟩ :=
  ⟨by decide, by decide, fun _ => by decide⟩

/-- The resolver answers only the nine conflict-free values (41_dpad_resolver.md R85). -/
theorem resolve_mem_conflictFree (d : DpadField) :
    resolve d ∈ [0#4, 1#4, 2#4, 4#4, 5#4, 6#4, 8#4, 9#4, 10#4] := by
  revert d; decide

theorem extractLsb'_sample_byte0_dpad {c : Config} (h : c.admissible = true) (p : PinPair) :
    (sample c p).byte0.extractLsb' 4 4 = resolve (rawDpad c (~~~p.pins0)) :=
  BitVec.eq_of_getLsbD_eq fun i hi => by
    rw [BitVec.getLsbD_extractLsb', sample_byte0_getLsbD_dpad h p hi]
    simp [hi]

theorem extractLsb'_remapByte1_face_of_nes {c : Config} (hm : c.mode = .nes8Button) (a : Byte) :
    (remapByte1 c a).extractLsb' 0 4 = 0#4 :=
  BitVec.eq_of_getLsbD_eq fun i hi => by
    rw [BitVec.getLsbD_extractLsb', remapByte1_getLsbD_of_nes hm a (by omega)]
    simp; omega

theorem snapshotLawful_sample {c : Config} (h : c.admissible = true) (p : PinPair) : snapshotLawful c (sample c p) := by
  refine ⟨extractLsb'_remapByte1_unused c _, ?dpad, fun hm => extractLsb'_remapByte1_face_of_nes hm _⟩
  case dpad =>
    rw [extractLsb'_sample_byte0_dpad h]
    exact resolve_mem_conflictFree _

theorem lawful_resetOf (c : Config) : (State.resetOf c).lawful := ⟨snapshotLawful_zero c, snapshotLawful_zero c⟩

/-- `LS` only ever becomes a sample, and `LR` only ever becomes the old `LS`. -/
theorem lawful_keptByStep : KeptByStep State.lawful where
  taking _ _ h := h
  reset {s} _ := ⟨snapshotLawful_zero s.cfg, snapshotLawful_zero s.cfg⟩
  exec {i s t} hs h := by
    obtain ⟨hls, hlr⟩ := hs
    obtain ⟨ha, -⟩ := exec_next_cases h
    obtain ⟨hcfg, -, -⟩ := exec_frame h
    rw [State.lawful, hcfg]
    refine ⟨?ls, ?lr⟩
    case ls =>
      obtain heq | ⟨-, heq⟩ := exec_ls_cases h
      · rwa [heq]
      · rw [heq]
        exact snapshotLawful_sample ha s.pins
    case lr =>
      obtain heq | heq := exec_lr_cases h
      · rwa [heq]
      · rwa [heq]

/-! ### The latest sample -/

theorem holdsLatestSample_of_uninitialized {s : State} (hp : s.phase = .uninitialized) : s.holdsLatestSample :=
  fun hready => nomatch hp.symm.trans hready

theorem holdsLatestSample_keptByStep : KeptByStep State.holdsLatestSample where
  taking _ _ h := h
  reset _ := holdsLatestSample_of_uninitialized rfl
  exec {i s t} hs h := by
    obtain ⟨hcfg, -, -⟩ := exec_frame h
    intro hready
    rw [hcfg]
    obtain ⟨-, ht⟩ | ⟨-, ht⟩ := exec_sampling_cases h
    · exact ⟨s.pins, by rw [ht.reads, List.getLast?_concat], ht.ls⟩
    · rw [ht.reads, ht.ls]
      exact hs (ht.phase.symm.trans hready)

/-! ### Reports -/

/-- A pad type written by an operation is the mode's. -/
theorem exec_padType_write {i : Instr} {s t : State} {v : PadType} (h : exec i s = .next t)
    (hv : Event.reportWrite (.padType v) ∈ t.trace) :
    Event.reportWrite (.padType v) ∈ s.trace ∨ v = padOf s.cfg.mode := by
  obtain ⟨-, hcase⟩ := exec_next_cases h
  obtain ⟨-, rfl⟩ | ⟨-, -, rfl⟩ | ⟨-, -, rfl⟩ | ⟨-, -, rfl⟩ | ⟨-, -, rfl⟩ | ⟨-, -, rfl⟩ := hcase
  · exact .inl (by simpa using hv) -- INIT
  · exact .inl (by simpa using hv) -- UPDATE
  · exact .inl (by simpa using hv) -- CHANGED
  · exact (by simpa using hv) -- GETREPORT with a record
  · exact .inl (by simpa using hv) -- GETREPORT without one
  · exact .inl (by simpa using hv) -- NotInitialized

/-- `rep_valid` is the strobe of a GETREPORT with a record in Ready (30_encoding.md R70). -/
theorem exec_repValid {i : Instr} {s t : State} (h : exec i s = .next t) (hv : t.repValid = true) :
    i = .getreport true ∧ s.phase = .ready := by
  obtain ⟨-, hcase⟩ := exec_next_cases h
  obtain ⟨-, rfl⟩ | ⟨-, -, rfl⟩ | ⟨-, -, rfl⟩ | ⟨hi, hp, -⟩ | ⟨-, -, rfl⟩ | ⟨-, -, rfl⟩ := hcase
  · simp at hv -- INIT
  · simp at hv -- UPDATE
  · simp at hv -- CHANGED
  · exact ⟨hi, hp⟩ -- GETREPORT with a record
  · simp at hv -- GETREPORT without one
  · simp at hv -- NotInitialized

theorem reportsAgree_resetOf (c : Config) : (State.resetOf c).reportsAgree :=
  ⟨fun _ hv => absurd hv List.not_mem_nil, fun hv => nomatch hv⟩

theorem reportsAgree_keptByStep : KeptByStep State.reportsAgree where
  taking _ _ h := h
  reset h := ⟨h.1, fun hv => nomatch hv⟩
  exec {i s t} hs h := by
    obtain ⟨hpads, -⟩ := hs
    obtain ⟨hcfg, -, -⟩ := exec_frame h
    rw [State.reportsAgree, hcfg]
    refine ⟨fun v hv => (exec_padType_write h hv).elim (hpads v) id, fun hv => ?valid⟩
    case valid =>
      obtain ⟨rfl, hp⟩ := exec_repValid h hv
      have hc := committed_of_exec_getreport hp h
      rw [exec_getreport_true_report hp h, hc.ls, hc.lr]
      exact ⟨rfl, rfl, rfl, rfl⟩

end Sys2Proof.Machine

namespace Sys2Proof.Proofs

open Sys2Proof.Machine

/-- Settles O34: the snapshots written are all released or samples under an admissible wiring, which are lawful. -/
theorem stepKeepsSnapshotsLawful : Obligations.StepKeepsSnapshotsLawful :=
  fun _ _ hs h => lawful_keptByStep.step hs h

/-- Settles O35: an operation that samples makes its read the last one; any other leaves phase, `LS` and the reads. -/
theorem stepKeepsLatestSample : Obligations.StepKeepsLatestSample :=
  fun _ _ hs h => holdsLatestSample_keptByStep.step hs h

/-- Settles O36: a report is valid only right after a GETREPORT with a record, which writes all its fields and commits. -/
theorem stepKeepsReportsConsistent : Obligations.StepKeepsReportsConsistent :=
  fun _ _ hs h => reportsAgree_keptByStep.step hs h

/-- Settles O33: both snapshots are all released, the phase is Uninitialized and nothing is written or valid. -/
theorem invariantsHoldAtReset : Obligations.InvariantsHoldAtReset := by
  have new : ∀ c : Config,
      (State.resetOf c).lawful ∧ (State.resetOf c).holdsLatestSample ∧ (State.resetOf c).reportsAgree :=
    fun c => ⟨lawful_resetOf c, holdsLatestSample_of_uninitialized rfl, reportsAgree_resetOf c⟩
  exact ⟨new, new (defaultConfig .snes12ButtonHome 4)⟩

end Sys2Proof.Proofs
end

section
/-! PROOFS. When an operation or a step goes on (60_exceptions.md section 1), and which configurations it asks for
(42_bit_mapper.md R95). -/

namespace Sys2Proof.Machine

/-! ### The outcome of an operation and of a step -/

theorem exec_ne_fault (i : Instr) (s : State) (f : Fault) : exec i s ≠ .fault f := by
  cases i with
  | init => exact s.launch_ne_fault _ f
  | update => exact s.launch_ne_fault _ f
  | changed => exact s.launch_ne_fault _ f
  | getreport d => exact s.launch_ne_fault _ f

theorem exec_of_not_admissible (i : Instr) {s : State} (h : s.cfg.admissible = false) :
    exec i s = .refused .inadmissibleConfiguration := by
  cases i with
  | init => exact State.launch_of_not_admissible h _
  | update => exact State.launch_of_not_admissible h _
  | changed => exact State.launch_of_not_admissible h _
  | getreport d => exact State.launch_of_not_admissible h _

theorem exec_refused_iff (i : Instr) (s : State) :
    exec i s = .refused .inadmissibleConfiguration ↔ s.cfg.admissible = false := by
  refine ⟨fun hrefused => ?_, exec_of_not_admissible i⟩
  by_contra hadm
  obtain ⟨t, ht⟩ := exec_of_admissible i (Bool.eq_true_of_not_eq_false hadm)
  exact nomatch ht.symm.trans hrefused

theorem step_of_overlapped {s : State} {a b : CommandWord} {r : List HostInput} (h : s.inputs = .overlapped a b :: r) :
    step s = .refused .overlappedOperations := by
  simp [step, h]

theorem step_ne_fault (s : State) (f : Fault) : step s ≠ .fault f := by
  match hi : s.inputs with
  | [] => simp [step_of_nil hi]
  | .reset :: r => simp [step_of_reset hi]
  | .issue w p :: r => simpa [step_of_issue hi] using exec_ne_fault (decode w) (s.taking r p) f
  | .overlapped a b :: r => simp [step_of_overlapped hi]

theorem step_of_admissible {s : State} (ha : s.cfg.admissible = true)
    (hserial : ∀ a b r, s.inputs ≠ .overlapped a b :: r) : ∃ t, step s = .next t := by
  match hi : s.inputs with
  | [] => exact ⟨s, step_of_nil hi⟩
  | .reset :: r => exact ⟨_, step_of_reset hi⟩
  | .issue w p :: r =>
    obtain ⟨t, ht⟩ := exec_of_admissible (s := s.taking r p) (decode w) ha
    exact ⟨t, (step_of_issue hi).trans ht⟩
  | .overlapped a b :: r => exact absurd hi (hserial a b r)

/-! ### The checks of R95, as statements about the tables -/

theorem lines0Bijective_iff (c : Config) :
    c.lines0Bijective = true ↔ Function.Bijective fun k : Fin 8 => c.src0[k] := by
  simp only [Config.lines0Bijective, Bool.and_eq_true, decide_eq_true_eq]
  rfl

theorem snesIdentity_iff (c : Config) :
    c.snesIdentity = true ↔ (c.mode = .snes12ButtonHome → ∀ k : Fin 8, c.src0[k] = k) := by
  cases hm : c.mode <;> simp [Config.snesIdentity, hm]

theorem nesSwap_iff (c : Config) :
    c.nesSwap = true ↔ (c.mode = .nes8Button → c.src0[(0 : Fin 8)] = 7 ∧ c.src0[(1 : Fin 8)] = 6) := by
  cases hm : c.mode <;> simp [Config.nesSwap, hm]

/-- The five extra sources, A, X, L, R and Home. -/
def extraSources (c : Config) : List Nat :=
  [(c.src1[(0 : Fin 4)]).val, (c.src1[(1 : Fin 4)]).val, (c.src1[(2 : Fin 4)]).val, (c.src1[(3 : Fin 4)]).val, c.homeSrc]

theorem extraSources_eq (c : Config) :
    extraSources c = (List.ofFn fun k : Fin 4 => (c.src1[k]).val) ++ [c.homeSrc] := by
  simp [extraSources, List.ofFn_succ]

theorem nodup_ofFn_concat_iff {n : Nat} (f : Fin n → Nat) (x : Nat) :
    (List.ofFn f ++ [x]).Nodup ↔ Function.Injective f ∧ ∀ i, f i ≠ x := by
  rw [List.nodup_append, List.nodup_ofFn]
  simp [List.mem_ofFn]

theorem extraSources_nodup_iff (c : Config) :
    (extraSources c).Nodup ↔
      (∀ i j : Fin 4, c.src1[i] = c.src1[j] → i = j) ∧ ∀ i : Fin 4, (c.src1[i]).val ≠ c.homeSrc := by
  rw [extraSources_eq, nodup_ofFn_concat_iff]
  simp only [Function.Injective, Fin.val_inj]

theorem extraDistinct_iff (c : Config) :
    c.extraDistinct = true ↔ (c.mode = .snes12ButtonHome → (extraSources c).Nodup) := by
  rw [extraSources_nodup_iff]
  cases hm : c.mode <;> simp [Config.extraDistinct, hm]

theorem homeInRange_iff (c : Config) : c.homeInRange = true ↔ c.homeSrc < 8 := decide_eq_true_iff

end Sys2Proof.Machine

namespace Sys2Proof.Proofs

open Sys2Proof.Machine

/-- Settles O4: the step by its next input, and the launch of each operation. -/
theorem serialStepsNeverStop : Obligations.SerialStepsNeverStop :=
  ⟨fun _ ha hserial => step_of_admissible ha hserial, fun s i f => ⟨step_ne_fault s f, exec_ne_fault i s f⟩⟩

/-- Settles O6: the check is R95's five, each of which is its Boolean definition read as a statement. -/
theorem inadmissibleIsRefused : Obligations.InadmissibleIsRefused :=
  ⟨exec_refused_iff, fun c => (admissible_iff c).trans
    (and_congr (lines0Bijective_iff c) (and_congr (snesIdentity_iff c) (and_congr (nesSwap_iff c)
      (and_congr (extraDistinct_iff c) (homeInRange_iff c)))))⟩

/-- Settles O5: the step by its next input. -/
theorem overlapIsRefused : Obligations.OverlapIsRefused :=
  fun _ _ _ _ h => step_of_overlapped h

end Sys2Proof.Proofs
end

section
/-! PROOFS. The four operations by phase (44_operations.md sections 1 to 6): the NotInitialized outcome, the transition
table, and what each operation reads and writes. -/

namespace Sys2Proof.Machine

/-! ### Outside Ready -/

theorem exec_eq_raise {i : Instr} {s t : State} (h : exec i s = .next t) (hp : s.phase = .uninitialized)
    (hi : i ≠ .init) : t = s.begin.raiseNotInitialized i := by
  obtain ⟨ha, -⟩ := exec_next_cases h
  cases (exec_uninitialized ha hp hi).symm.trans h
  rfl

/-- The row of section 6's table for every operation but INIT in Uninitialized. -/
theorem exec_turned_away {i : Instr} {s t : State} (h : exec i s = .next t) (hp : s.phase = .uninitialized)
    (hi : i ≠ .init) : t.phase = .uninitialized ∧ t.status = .notInitialized ∧ t.ls = s.ls ∧ t.lr = s.lr := by
  rw [exec_eq_raise h hp hi]
  simp [hp]

/-! ### What an operation reads and writes -/

theorem not_samples_changed (s : State) : ¬ s.Samples .changed := by simp [State.Samples]

theorem not_samples_getreport (s : State) (d : Bool) : ¬ s.Samples (.getreport d) := by simp [State.Samples]

theorem exec_phase_cases {i : Instr} {s t : State} (h : exec i s = .next t) : i = .init ∨ t.phase = s.phase := by
  obtain ⟨-, hcase⟩ := exec_next_cases h
  obtain ⟨hi, -⟩ | ⟨-, -, rfl⟩ | ⟨-, -, rfl⟩ | ⟨-, -, rfl⟩ | ⟨-, -, rfl⟩ | ⟨-, -, rfl⟩ := hcase
  · exact .inl hi -- INIT
  · exact .inr (by simp) -- UPDATE
  · exact .inr (by simp) -- CHANGED
  · exact .inr (by simp) -- GETREPORT with a record
  · exact .inr (by simp) -- GETREPORT without one
  · exact .inr (by simp) -- NotInitialized

theorem exec_gpioCfgReq {i : Instr} {s t : State} (h : exec i s = .next t) :
    t.gpioCfgReq = if i = .init then some s.cfg.mode else none := by
  obtain ⟨-, hcase⟩ := exec_next_cases h
  obtain ⟨rfl, rfl⟩ | ⟨rfl, -, rfl⟩ | ⟨rfl, -, rfl⟩ | ⟨rfl, -, rfl⟩ | ⟨rfl, -, rfl⟩ | ⟨hi, -, rfl⟩ := hcase
  · simp -- INIT
  · simp -- UPDATE
  · simp -- CHANGED
  · simp -- GETREPORT with a record
  · simp -- GETREPORT without one
  · simp [hi] -- NotInitialized

/-! ### The pins -/

/-- With other levels on the pins an operation that reads none ends in the same state but for those levels. -/
theorem exec_of_other_pins {i : Instr} {s t : State} (h : exec i s = .next t) (hi : i ≠ .init) (hu : i ≠ .update)
    (p : PinPair) : exec i { s with pins := p } = .next { t with pins := p } := by
  obtain ⟨ha, hcase⟩ := exec_next_cases h
  obtain ⟨hinit, -⟩ | ⟨hupdate, -⟩ | ⟨rfl, hp, rfl⟩ | ⟨rfl, hp, rfl⟩ | ⟨rfl, hp, rfl⟩ | ⟨-, hp, rfl⟩ := hcase
  · exact absurd hinit hi
  · exact absurd hupdate hu
  · exact exec_changed_ready (s := { s with pins := p }) ha hp
  · exact exec_getreport_ready (s := { s with pins := p }) ha hp true
  · exact exec_getreport_ready (s := { s with pins := p }) ha hp false
  · exact exec_uninitialized (s := { s with pins := p }) ha hp hi

/-- R112's example: B alone in SNES mode. -/
theorem sample_of_snes_line0_low {c : Config} (h : c.admissible = true) (hm : c.mode = .snes12ButtonHome) :
    sample c ⟨0xFE#8, 0xFF#8⟩ = ⟨0x01#8, 0x00#8⟩ := by
  have active0 : ~~~(0xFE#8) = 0x01#8 := by decide
  have active1 : ~~~(0xFF#8) = 0x00#8 := by decide
  rw [sample_eq_samplePermutedFirst h, samplePermutedFirst, active0, active1, remapByte0_of_snes h hm, remapByte1_zero]
  decide

end Sys2Proof.Machine

namespace Sys2Proof.Proofs

open Sys2Proof.Machine

/-- Settles O7: a row of Uninitialized is INIT or NotInitialized, a row of Ready succeeds; `LR` is GETREPORT's to write
and `LS` the sampling operations'. -/
theorem phaseTransitionTable : Obligations.PhaseTransitionTable := by
  refine ⟨fun i s ha => ?table, fun s t h hready huninit => ?onlyReset⟩
  case table =>
    obtain ⟨t, ht⟩ := exec_of_admissible i ha
    refine ⟨t, ht, ?_⟩
    cases hp : s.phase with
    | uninitialized =>
      cases i with
      | init =>
        obtain ⟨hstatus, hphase, -⟩ := exec_succeeds ht (.inr rfl)
        exact ⟨hphase, hstatus, exec_lr_of_ne_getreport ht (by simp)⟩
      | update => exact exec_turned_away ht hp (by simp)
      | changed => exact exec_turned_away ht hp (by simp)
      | getreport d => exact exec_turned_away ht hp (by simp)
    | ready =>
      obtain ⟨hstatus, hphase, -⟩ := exec_succeeds ht (.inl hp)
      cases i with
      | init => exact ⟨hphase, hstatus, exec_lr_of_ne_getreport ht (by simp)⟩
      | update => exact ⟨hphase, hstatus, exec_lr_of_ne_getreport ht (by simp)⟩
      | changed =>
        exact ⟨hphase, hstatus, (exec_unsampled ht (not_samples_changed s)).ls, exec_lr_of_ne_getreport ht (by simp)⟩
      | getreport d => exact ⟨hphase, hstatus, (exec_unsampled ht (not_samples_getreport s d)).ls⟩
  case onlyReset =>
    obtain ⟨-, rfl⟩ | ⟨r, hi, -⟩ | ⟨w, p, r, -, hexec⟩ := step_next_cases h
    · exact nomatch hready.symm.trans huninit
    · exact ⟨r, hi⟩
    · obtain ⟨-, hstays, -⟩ := exec_succeeds hexec (.inl hready)
      exact nomatch hstays.symm.trans huninit

/-- Settles O9: the chain of named operations in Ready, with the example through the permuted-first form, and the
NotInitialized outcome. -/
theorem updateEffect : Obligations.UpdateEffect := by
  refine ⟨rfl, fun s ha hp => ⟨_, exec_update_ready ha hp, ?ready⟩,
    fun s ha hp => ⟨_, exec_uninitialized ha hp (by simp), ?uninitialized⟩⟩
  case ready =>
    have bAlone : s.cfg.mode = .snes12ButtonHome → s.pins = ⟨0xFE#8, 0xFF#8⟩ →
        sample s.cfg s.pins = ⟨0x01#8, 0x00#8⟩ := fun hm hpins => hpins ▸ sample_of_snes_line0_low ha hm
    simpa [hp] using bAlone
  case uninitialized => simp [hp]

/-- Settles O10: CHANGED writes its outcome alone, so a second one compares the same two snapshots. -/
theorem changedEffect : Obligations.ChangedEffect := by
  intro s ha hp
  refine ⟨_, exec_changed_ready ha hp, changedFn_eq_true_iff s.ls s.lr, rfl, hp, rfl, rfl, rfl, rfl, rfl, rfl, rfl, rfl, ?_⟩
  exact ⟨_, exec_changed_ready (by simpa using ha) (by simpa using hp), by simp⟩

/-- Settles O13: the outcome is `raiseNotInitialized` after the ports of the operation went down. -/
theorem notInitializedWritesNothing : Obligations.NotInitializedWritesNothing :=
  fun i _ ha hp hi => ⟨_, exec_uninitialized ha hp hi, by simp [hp]⟩

/-- Settles O14: the two chains of named operations differ in the request port, `INIT` entering a phase it is in. -/
theorem secondInitIsUpdateAfterConfigure : Obligations.SecondInitIsUpdateAfterConfigure := by
  intro s ha hp
  refine ⟨_, _, exec_init ha, exec_update_ready (s := s.record (.gpioConfigure s.cfg.mode)) ha hp, ?_⟩
  simp [State.agreesOutsideFree, hp]

/-- Settles O16: the operations that sample and those that do not. -/
theorem onePairedReadPerSample : Obligations.OnePairedReadPerSample := by
  intro s ha
  have sampled : ∀ i, s.Samples i →
      ∃ t, exec i s = .next t ∧ readsOf t.trace = readsOf s.trace ++ [s.pins] ∧ t.ls = sample s.cfg s.pins := by
    intro i hi
    obtain ⟨t, ht⟩ := exec_of_admissible i ha
    exact ⟨t, ht, (exec_sampled ht hi).reads, (exec_sampled ht hi).ls⟩
  have unsampled : ∀ i, ¬ s.Samples i → ∃ t, exec i s = .next t ∧ readsOf t.trace = readsOf s.trace := by
    intro i hi
    obtain ⟨t, ht⟩ := exec_of_admissible i ha
    exact ⟨t, ht, (exec_unsampled ht hi).reads⟩
  exact ⟨sampled .init (.inl rfl), fun hp => sampled .update (.inr ⟨rfl, hp⟩),
    unsampled .changed (not_samples_changed s), fun d => unsampled (.getreport d) (not_samples_getreport s d)⟩

/-- Settles O17: the request port by operation; the window stands exactly where the record of reads grew. -/
theorem pulsePortsDuringOperation : Obligations.PulsePortsDuringOperation := by
  intro i s ha
  obtain ⟨t, ht⟩ := exec_of_admissible i ha
  refine ⟨t, ht, ?request, ?window⟩
  case request =>
    rw [exec_gpioCfgReq ht]
    cases i with
    | init => rfl
    | update => rfl
    | changed => rfl
    | getreport d => rfl
  case window =>
    obtain ⟨-, hsampled⟩ | ⟨-, hunsampled⟩ := exec_sampling_cases ht
    · simp [hsampled.window, hsampled.reads]
    · simp [hunsampled.window, hunsampled.reads]

/-- Settles O19: a step that answers a next state keeps everything, is a reset, or runs its one operation, for which the
inversions of `exec` name the writers. -/
theorem stepWritersOfEachRegister : Obligations.StepWritersOfEachRegister := by
  intro s t h
  obtain ⟨-, rfl⟩ | ⟨r, hi, rfl⟩ | ⟨w, p, r, hi, hexec⟩ := step_next_cases h
  · exact ⟨rfl, fun hne => absurd rfl hne, fun hne => absurd rfl hne, fun hne => absurd rfl hne⟩
  · exact ⟨rfl, fun _ => .inl ⟨r, hi⟩, fun _ => .inl ⟨r, hi⟩, fun _ => .inl ⟨r, hi⟩⟩
  · obtain ⟨hcfg, -, -⟩ := exec_frame hexec
    refine ⟨hcfg, fun hls => .inr ⟨w, p, r, hi, ?ls⟩, fun hlr => .inr ?lr, fun hphase => .inr ⟨w, p, r, hi, ?phase⟩⟩
    case ls => exact ((exec_ls_cases hexec).resolve_left hls).1
    case lr =>
      by_contra hnone
      exact hlr (exec_lr_of_ne_getreport (s := s.taking r p) hexec fun d hd => hnone ⟨w, p, r, d, hi, hd⟩)
    case phase => exact (exec_phase_cases hexec).resolve_right hphase

/-- Settles O20: the two operations that speak of the last sample neither read the pins nor write them. -/
theorem reportingIgnoresPins : Obligations.ReportingIgnoresPins := by
  intro i s p ha hi
  obtain ⟨t, ht⟩ := exec_of_admissible i ha
  have hother : i ≠ .init ∧ i ≠ .update := by
    obtain rfl | ⟨d, rfl⟩ := hi <;> simp
  exact ⟨t, _, ht, exec_of_other_pins ht hother.1 hother.2 p, State.agreesOutsideFree_refl _, fun _ _ => rfl⟩

end Sys2Proof.Proofs
end

section
/-! PROOFS. The step as the host drives it (20_memory.md section 7, 70_reset_and_hazards.md section 1), and short runs of
operations (44_operations.md sections 4, 7 and 8). -/

namespace Sys2Proof.Machine

/-! ### The issued command -/

/-- The three-bit port holds exactly the numbers below 8 (log 14). -/
theorem decodeNumber_eq_ok_iff (n : Nat) (i : Instr) :
    decodeNumber n = .ok i ↔ n < 8 ∧ decode (BitVec.ofNat 3 n) = i := by
  unfold decodeNumber
  split
  next hn => simp [hn]
  next hn => simp [hn]

theorem decodeTableWord_eq_some_iff (nbits w : Nat) (i : Instr) :
    decodeTableWord nbits w = some i ↔ decodeNumber (tableNumber nbits w) = .ok i := by
  unfold decodeTableWord
  cases decodeNumber (tableNumber nbits w) <;> simp

theorem step_issueNext {n : Nat} (hn : n < 8) (s : State) :
    step (s.issueNext n) = exec (decode (BitVec.ofNat 3 n)) s := by
  rw [State.issueNext, if_pos hn]
  exact step_of_issue rfl

theorem step_withFetchWord {s : State} {nbits w : Nat} {i : Instr} (h : decodeTableWord nbits w = some i) :
    step (s.withFetchWord nbits w) = exec i s := by
  obtain ⟨hn, rfl⟩ := (decodeNumber_eq_ok_iff _ _).mp ((decodeTableWord_eq_some_iff nbits w i).mp h)
  exact step_issueNext hn s

theorem decodeTableWord_encode (i : Instr) : decodeTableWord 8 (encode i).toNat = some i := by
  have hword : (encode i).toNat < 8 := (encode i).isLt
  have hnumber : tableNumber 8 (encode i).toNat = (encode i).toNat := Nat.mod_eq_of_lt (by omega)
  rw [decodeTableWord_eq_some_iff, hnumber, decodeNumber_eq_ok_iff]
  exact ⟨hword, by rw [BitVec.ofNat_toNat, BitVec.setWidth_eq, decode_encode]⟩

/-! ### From reset -/

/-- Right after the first INIT: Ready with the sample in `LS`, and `LR` still all released (D8, log 11). -/
theorem exec_init_resetOf {c : Config} (h : c.admissible = true) (p : PinPair) :
    ∃ t, exec .init { State.resetOf c with pins := p } = .next t ∧ t.cfg = c ∧ t.phase = .ready ∧ t.ls = sample c p
      ∧ t.lr = ⟨0x00#8, 0x00#8⟩ :=
  ⟨_, exec_init (s := { State.resetOf c with pins := p }) h, rfl, rfl, by simp, rfl⟩

/-! ### Reports along a run -/

theorem exec_getreport_true_repValid {s t : State} (hp : s.phase = .ready) (h : exec (.getreport true) s = .next t) :
    t.repValid = true := by
  obtain ⟨ha, -⟩ := exec_next_cases h
  cases (exec_getreport_ready ha hp true).symm.trans h
  rfl

/-- A step by GETREPORT with a record reports `LS`, commits it, and takes its input. -/
theorem step_getreport_true {s : State} {w : CommandWord} {p : PinPair} {r : List HostInput}
    (ha : s.cfg.admissible = true) (hp : s.phase = .ready) (hi : s.inputs = .issue w p :: r)
    (hw : decode w = .getreport true) :
    ∃ t, step s = .next t ∧ t.repValid = true ∧ t.report = ⟨padOf s.cfg.mode, packButtons s.ls, s.ls⟩
      ∧ t.Committed s.cfg (faultsOf s.trace) s.ls ∧ t.inputs = r := by
  obtain ⟨t, ht⟩ := exec_of_admissible (s := s.taking r p) (.getreport true) ha
  obtain ⟨-, -, hin⟩ := exec_frame ht
  exact ⟨t, (hw ▸ step_of_issue hi).trans ht, exec_getreport_true_repValid (s := s.taking r p) hp ht,
    exec_getreport_true_report (s := s.taking r p) hp ht, committed_of_exec_getreport (s := s.taking r p) hp ht, hin⟩

/-- What the operations of a stretch of inputs keep holds when the stretch is consumed, whatever comes after it. -/
theorem run_through_keeps {P : State → Prop} {A : Instr → PinPair → Prop} (hk : KeptByOperations P A)
    {l rest : List HostInput} {s : State} (hP : P s) (hi : s.inputs = l ++ rest)
    (hA : ∀ x ∈ l, ∃ w p, x = .issue w p ∧ A (decode w) p) :
    ∃ t : State, core.run l.length s = .next t ∧ P t ∧ t.inputs = rest := by
  refine run_through P (fun x => ∃ w p, x = .issue w p ∧ A (decode w) p) ?step l rest s hP hi hA
  rintro s _ r hP hi ⟨w, p, rfl, hA⟩
  exact step_keeps hk hP hi hA

/-! ### UPDATE, then CHANGED -/

/-- CHANGED after an UPDATE compares the new sample with the old `LR`; the pins and `LR` stand for what comes next. -/
theorem exec_update_then_changed {s : State} (ha : s.cfg.admissible = true) (hp : s.phase = .ready) :
    ∃ t u, exec .update s = .next t ∧ exec .changed t = .next u ∧ t.ls = sample s.cfg s.pins
      ∧ u.changedOut = changedFn (sample s.cfg s.pins) s.lr
      ∧ u.cfg = s.cfg ∧ u.pins = s.pins ∧ u.phase = .ready ∧ u.lr = s.lr := by
  refine ⟨_, _, exec_update_ready ha hp, exec_changed_ready ?admissible ?ready, ?_⟩
  case admissible => simpa using ha
  case ready => simpa using hp
  simp [hp]

end Sys2Proof.Machine

namespace Sys2Proof.Proofs

open Sys2Proof.Machine

/-- Settles O1: the step by its next input; a table word that decodes is one that fits the port. -/
theorem stepRunsDecodedCommand : Obligations.StepRunsDecodedCommand :=
  ⟨fun _ _ _ _ hi => step_of_issue hi, fun _ _ _ _ h => step_withFetchWord h, decodeTableWord_encode⟩

/-- Settles O29: the step by its next input. -/
theorem resetInputEffect : Obligations.ResetInputEffect :=
  fun _ _ hi => ⟨_, step_of_reset hi, by simp⟩

/-- Settles O15: the first report commits `LS`, every operation between keeps the commit, and the second report is of the
same `LS`. -/
theorem repeatedReportsAreEqual : Obligations.RepeatedReportsAreEqual := by
  intro s w w' p p' between rest ha hp hi hw hw' hbetween
  have noSample : ∀ x ∈ between, ∃ v q, x = .issue v q ∧
      ((decode v = .init ∨ decode v = .update) → sample s.cfg q = s.ls) := fun x hx => by
    obtain ⟨v, q, rfl, hv | ⟨d, hv⟩⟩ := hbetween x hx
    · exact ⟨v, q, rfl, by simp [hv]⟩
    · exact ⟨v, q, rfl, by simp [hv]⟩
  obtain ⟨t, ht, htValid, htReport, htCommitted, htInputs⟩ := step_getreport_true ha hp hi hw
  obtain ⟨u, hu, huCommitted, huInputs⟩ :=
    run_through_keeps (committed_kept ha (faultsOf s.trace) s.ls) htCommitted htInputs noSample
  obtain ⟨v, hv, hvValid, hvReport, hvCommitted, hvInputs⟩ :=
    step_getreport_true (huCommitted.cfg ▸ ha) huCommitted.phase huInputs hw'
  have hrun : core.run (between.length + 2) s = .next v :=
    calc core.run (between.length + 2) s
      _ = core.run (between.length + 1) t := run_succ _ ht
      _ = core.run 1 u := run_add 1 hu
      _ = .next v := run_succ 0 hv
  refine ⟨t, v, ht, hrun, htValid, hvValid, ?report, ?lr, hvInputs⟩
  case report => rw [hvReport, htReport, huCommitted.cfg, huCommitted.ls]
  case lr => rw [hvCommitted.lr, htCommitted.lr, huCommitted.ls]

/-- Settles O30: the sample with no selected line low is all released. -/
theorem allReleasedBaseline : Obligations.AllReleasedBaseline := by
  intro c p h hbus0 hhome hface
  obtain ⟨t, ht, hcfg, hphase, hls, -⟩ := exec_init_resetOf h p
  have bus0 : ∀ k : Fin 8, p.pins0.getLsbD (c.src0[k]).val = true := fun k => hbus0 ▸ allHigh_getLsbD (Fin.isLt _)
  have released : t.ls = ⟨0x00#8, 0x00#8⟩ := hls.trans ((sample_eq_zero_iff h p).mpr ⟨bus0, hhome, hface⟩)
  obtain ⟨u, hu⟩ := exec_of_admissible (.getreport true) (hcfg ▸ h)
  refine ⟨t, u, ht, hu, ?report, exec_getreport_true_repValid hphase hu,
    (committed_of_exec_getreport hphase hu).lr.trans released⟩
  case report =>
    rw [exec_getreport_true_report hphase hu, hcfg, released]
    rfl

/-- Settles O31: `LR` is still all released, so a change is a sample that is not. -/
theorem firstChangedAfterReset : Obligations.FirstChangedAfterReset := by
  intro c p h
  obtain ⟨t, ht, hcfg, hphase, hls, hlr⟩ := exec_init_resetOf h p
  refine ⟨t, _, ht, exec_changed_ready (hcfg ▸ h) hphase, ?_⟩
  rw [State.succeedWith_changedOut, changedFn_eq_true_iff, hls, hlr, Ne, sample_eq_zero_iff h]
  simp only [not_and_or, not_forall, Bool.not_eq_true, exists_prop]

/-- Settles O32: neither UPDATE nor CHANGED touches the pins or `LR`, so the second pair repeats the first. -/
theorem repeatedUpdateIsIdempotent : Obligations.RepeatedUpdateIsIdempotent := by
  intro s ha hp
  obtain ⟨t, u, ht, hu, htls, huOut, hucfg, hupins, huphase, hulr⟩ := exec_update_then_changed ha hp
  obtain ⟨v, w, hv, hw, hvls, hwOut, -⟩ := exec_update_then_changed (hucfg ▸ ha) huphase
  rw [hucfg, hupins] at hvls hwOut
  refine ⟨t, u, v, w, _, ht, hu, hv, hw, exec_changed_ready ha hp, hvls.trans htls.symm, ?again, fun hls => ?already⟩
  case again => rw [hwOut, hulr, huOut]
  case already => rw [huOut, ← hls, State.succeedWith_changedOut]

end Sys2Proof.Proofs
end
